-- ==== Sys2Proof/Word.lean ====
section
/-! DEFINITION. The word types of the cfa635 link core (spec 00_scope.md R9, R13). Every value is unsigned. -/

namespace Sys2Proof

/-- A byte: type, length and payload bytes, opcodes, register indices (R9). -/
abbrev Byte := BitVec 8

/-- A 16-bit value: the CRC and the wide registers (R9, R62). -/
abbrev Word := BitVec 16

/-- A 6-bit frame code (R9, R82). -/
abbrev Code := BitVec 6

/-- A 2-bit frame class as it stands on the wire (R82, R83). -/
abbrev WireClass := BitVec 2

/-- `MAX_PAYLOAD` (R6). -/
abbrev maxPayload : Nat := 22

end Sys2Proof
end

