-- ==== Sys2Proof/Config.lean ====
section
/-! DEFINITION. What the spec leaves to the implementation: the parameters QDEPTH and REPORT_DECODE
(00_scope.md R7, R8) and the free answer of RxNonEmpty (20_memory.md R65). None has a body: no proof can lean on a
value of it. -/

namespace Sys2Proof

/-- The two open parameters, over the abstract type of decoded reports (R7, R8). The shared operations take them as
an argument; the machine runs with `Config.params`. -/
structure Params (Report : Type) where
  /-- `QDEPTH`: the capacity of the report queue; none means unbounded (R7). -/
  qdepth : Option Nat
  /-- `REPORT_DECODE`: code and payload to a decoded report, or none if unrecognised (R8). -/
  reportDecode : Code → List Byte → Option Report

/-- The abstract type `Report` (R8; log 6, safe). -/
opaque Config.Report : Type

/-- `QDEPTH`, left open (R7; log 6, safe). -/
opaque Config.qdepth : Option Nat

/-- `REPORT_DECODE`, left open (R8; log 6, safe). -/
opaque Config.reportDecode : Code → List Byte → Option Config.Report

/-- The answer of the k-th RxNonEmpty that the listed answers do not cover (R65; log 4, safe). -/
opaque Config.rxNonEmptyDraw : Nat → Bool

/-- The parameters the machine runs with. -/
def Config.params : Params Config.Report := ⟨Config.qdepth, Config.reportDecode⟩

end Sys2Proof
end

