-- ==== Sys2Proof/Syntax.lean ====
section
/-! DEFINITION. The abstract syntax: one constructor of `Instr` per row of spec/opcode_table.json, the four
encoding spaces the rows belong to, and the reasons a decoding is rejected. -/

namespace Sys2Proof

/-- The rows of the opcode table. The first twelve are the host operation words (30_encoding.md R89, R90), the next
six the received type bytes (R92), then the type byte TRANSACT sends (R94) and the wire frame (R80). -/
inductive Instr where
  | nop
  | crcInit
  | crcByte
  | crcFinal
  | crcFrame
  | checkCrc
  | send
  | receive
  | classify
  | transact
  | pollReport
  /-- ILLEGAL: an opcode 0x0B..0xFF (R90). -/
  | illegal (opcode : Byte)
  /-- RX_NORMAL: class 0b01, the sent code (R92). -/
  | rxNormal (code : Code)
  /-- RX_ERROR: class 0b11, the sent code (R92). -/
  | rxError (code : Code)
  /-- RX_REPORT: class 0b10, any code (R92). -/
  | rxReport (code : Code)
  /-- RX_FOREIGN_01: class 0b01, another code (R92). -/
  | rxForeign01 (code : Code)
  /-- RX_FOREIGN_11: class 0b11, another code (R92). -/
  | rxForeign11 (code : Code)
  /-- RX_FOREIGN_00: class 0b00, any code (R92, R93). -/
  | rxForeign00 (code : Code)
  /-- TX_COMMAND_TYPE: the type byte TRANSACT sends (R94). -/
  | txCommandType (code : Code)
  /-- FRAME: a wire frame with the CRC it carries (R80); its length byte is the payload's length (R140). -/
  | frame (ftype : Byte) (payload : List Byte) (crc : Word)
  deriving DecidableEq, Repr

/-- The encoding spaces of the opcode table. A received type byte is read against the sent code (R92). -/
inductive Space where
  | operation
  | receivedType (sent : Code)
  | sentType
  | wireFrame
  deriving DecidableEq, Repr

/-- What a received type byte is taken to be (42_engine.md R170). -/
inductive Kind where
  | normal
  | error
  | report
  | foreign
  deriving DecidableEq, Repr

/-- Why bytes are no instruction of a space. -/
inductive DecodeError where
  /-- A one-byte space was given another number of bytes. -/
  | notOneByte
  /-- A sent type byte whose class bits are not 0b00 (R94). -/
  | notCommandClass (t : Byte)
  /-- A length byte 23..255 (R84, R146). -/
  | badLength (n : Byte)
  /-- Fewer bytes than `4 + length` (R81, R147). -/
  | truncated
  /-- More bytes than `4 + length` (R81). -/
  | trailing
  deriving DecidableEq, Repr

end Sys2Proof
end

