-- ==== Sys2Proof/WellFormed.lean ====
section
/-! DEFINITION. Which instruction terms are rows of the opcode table, given the sent code that a received type
byte is classified against (30_encoding.md R90, R92; 00_scope.md R6). -/

namespace Sys2Proof

/-- `i` is what its row says: an ILLEGAL opcode is at least 0x0B (R90); the code of RX_NORMAL and RX_ERROR is the
sent code and that of RX_FOREIGN_01 and RX_FOREIGN_11 is another (R92); a payload has at most 22 bytes (R6). -/
def Instr.wellFormed (sent : Code) : Instr → Bool
  | .nop => true
  | .crcInit => true
  | .crcByte => true
  | .crcFinal => true
  | .crcFrame => true
  | .checkCrc => true
  | .send => true
  | .receive => true
  | .classify => true
  | .transact => true
  | .pollReport => true
  | .illegal opcode => decide (0x0B ≤ opcode.toNat)
  | .rxNormal code => code == sent
  | .rxError code => code == sent
  | .rxReport _ => true
  | .rxForeign01 code => code != sent
  | .rxForeign11 code => code != sent
  | .rxForeign00 _ => true
  | .txCommandType _ => true
  | .frame _ payload _ => decide (payload.length ≤ maxPayload)

end Sys2Proof
end

