-- ==== Sys2Proof/Decode.lean ====
section
/-! DEFINITION. Decoding and encoding: the field helpers of a type byte and of the CRC pair, one decoder per
encoding space, total on any bytes, the encoder, and the host's reading of a bare table word. -/

namespace Sys2Proof

/-- `class = t[7:6]` (30_encoding.md R82). -/
def typeClass (t : Byte) : WireClass := t.extractLsb' 6 2

/-- `code = t[5:0]` (R82). -/
def typeCode (t : Byte) : Code := t.extractLsb' 0 6

/-- `t = (class << 6) or code` (R82). -/
def mkType (c : WireClass) (k : Code) : Byte := (c.setWidth 8 <<< 6) ||| k.setWidth 8

/-- `crc[7:0]`, the CRC byte sent first (R80, 20_memory.md R61). -/
def crcLow (c : Word) : Byte := c.extractLsb' 0 8

/-- `crc[15:8]`, the CRC byte sent last (R80, R61). -/
def crcHigh (c : Word) : Byte := c.extractLsb' 8 8

/-- `zext_16(lo) or (zext_16(hi) << 8)` (R61, R85). -/
def crcJoin (lo hi : Byte) : Word := lo.setWidth 16 ||| (hi.setWidth 16 <<< 8)

/-- The length byte of a payload (R80, 41_codec.md R140). -/
def lengthByte (p : List Byte) : Byte := BitVec.ofNat 8 p.length

/-- The bytes the CRC covers: type, length, payload (R85, 40_crc.md R113). -/
def coveredBytes (t : Byte) (p : List Byte) : List Byte := [t, lengthByte p] ++ p

/-- A frame's bytes in wire order, with the CRC it carries (R80). -/
def frameBytes (t : Byte) (p : List Byte) (c : Word) : List Byte :=
  coveredBytes t p ++ [crcLow c, crcHigh c]

/-- The operation an opcode written to `OP` names (R89, R90); total. -/
def decodeOperation (b : Byte) : Instr :=
  match b.toNat with
  | 0x00 => .nop
  | 0x01 => .crcInit
  | 0x02 => .crcByte
  | 0x03 => .crcFinal
  | 0x04 => .crcFrame
  | 0x05 => .checkCrc
  | 0x06 => .send
  | 0x07 => .receive
  | 0x08 => .classify
  | 0x09 => .transact
  | 0x0A => .pollReport
  | _ => .illegal b

/-- The row of a received type byte against the sent code (the table of R92); total. -/
def decodeReceivedType (sent : Code) (t : Byte) : Instr :=
  match (typeClass t).toNat, typeCode t == sent with
  | 1, true => .rxNormal (typeCode t)
  | 3, true => .rxError (typeCode t)
  | 2, _ => .rxReport (typeCode t)
  | 1, false => .rxForeign01 (typeCode t)
  | 3, false => .rxForeign11 (typeCode t)
  | _, _ => .rxForeign00 (typeCode t)

/-- The row of a type byte TRANSACT sends: class 0b00 (R94). -/
def decodeSentType (t : Byte) : Except DecodeError Instr :=
  if typeClass t = 0 then .ok (.txCommandType (typeCode t)) else .error (.notCommandClass t)

/-- A whole wire frame (R80, R81); the length byte is checked before anything after it (R84). -/
def decodeFrame : List Byte → Except DecodeError Instr
  | t :: n :: rest =>
    if maxPayload < n.toNat then .error (.badLength n)
    else match rest.drop n.toNat with
      | [lo, hi] => .ok (.frame t (rest.take n.toNat) (crcJoin lo hi))
      | _ :: _ :: _ :: _ => .error .trailing
      | _ => .error .truncated
  | _ => .error .truncated

/-- The instruction that `bytes` is in an encoding space, or why it is none. -/
def decode (sp : Space) (bytes : List Byte) : Except DecodeError Instr :=
  match sp, bytes with
  | .operation, [b] => .ok (decodeOperation b)
  | .receivedType sent, [t] => .ok (decodeReceivedType sent t)
  | .sentType, [t] => decodeSentType t
  | .wireFrame, l => decodeFrame l
  | .operation, _ => .error .notOneByte
  | .receivedType _, _ => .error .notOneByte
  | .sentType, _ => .error .notOneByte

/-- The space an instruction's row belongs to. -/
def Instr.space (sent : Code) : Instr → Space
  | .nop => .operation
  | .crcInit => .operation
  | .crcByte => .operation
  | .crcFinal => .operation
  | .crcFrame => .operation
  | .checkCrc => .operation
  | .send => .operation
  | .receive => .operation
  | .classify => .operation
  | .transact => .operation
  | .pollReport => .operation
  | .illegal _ => .operation
  | .rxNormal _ => .receivedType sent
  | .rxError _ => .receivedType sent
  | .rxReport _ => .receivedType sent
  | .rxForeign01 _ => .receivedType sent
  | .rxForeign11 _ => .receivedType sent
  | .rxForeign00 _ => .receivedType sent
  | .txCommandType _ => .sentType
  | .frame _ _ _ => .wireFrame

/-- The bytes of an instruction (R80, R82, R89, R92, R94). -/
def encode : Instr → List Byte
  | .nop => [0x00]
  | .crcInit => [0x01]
  | .crcByte => [0x02]
  | .crcFinal => [0x03]
  | .crcFrame => [0x04]
  | .checkCrc => [0x05]
  | .send => [0x06]
  | .receive => [0x07]
  | .classify => [0x08]
  | .transact => [0x09]
  | .pollReport => [0x0A]
  | .illegal opcode => [opcode]
  | .rxNormal code => [mkType 0b01 code]
  | .rxError code => [mkType 0b11 code]
  | .rxReport code => [mkType 0b10 code]
  | .rxForeign01 code => [mkType 0b01 code]
  | .rxForeign11 code => [mkType 0b11 code]
  | .rxForeign00 code => [mkType 0b00 code]
  | .txCommandType code => [mkType 0b00 code]
  | .frame t p c => frameBytes t p c

/-- The first `n` bytes of a table word: bit 0 is the least significant bit of the first byte. -/
def wordBytes (n w : Nat) : List Byte := (List.range n).map fun k => BitVec.ofNat 8 (w >>> (8 * k))

/-- The bytes of the frame that a word of `nbits` bits starts, every bit above them 0: `4 + length` bytes, 26 at
most (R81). -/
def wordFrameBytes (nbits w : Nat) : List Byte :=
  let v := w % 2 ^ nbits
  (wordBytes 26 v).take (4 + (BitVec.ofNat 8 (v >>> 8) : Byte).toNat)

/-- The instruction a bare table word is. The table's rows of several spaces share their words, and a bare word does
not name its space. DESIGN CHOICE, log 11, safe: a byte with class bits 0b00 is read as a host operation word (R89, R90),
a byte with other class bits as a received type byte against the sent code 0 that reset leaves (R92), a longer word as a
wire frame (R80). The machine itself never reads a word this way: each of its places reads one space. -/
def decodeTableWord (nbits w : Nat) : Option Instr :=
  if nbits = 0 then none
  else if nbits ≤ 8 then
    let b : Byte := BitVec.ofNat 8 (w % 2 ^ nbits)
    if typeClass b = 0 then some (decodeOperation b) else some (decodeReceivedType 0 b)
  else match decodeFrame (wordFrameBytes nbits w) with
    | .ok i => some i
    | .error _ => none

end Sys2Proof
end

