-- ==== Sys2Proof/Machine/State.lean ====
section
/-! DEFINITION. The state of the block (10_state.md R20 to R43) and of the agents around it (00_scope.md R11), as
plain data, and the state after reset (70_reset_and_hazards.md R240). -/

namespace Sys2Proof.Machine

/-- The result codes of `STATUS.RESULT` (60_exceptions.md R210; 0x9..0xF are never written, R28; log 17). -/
inductive ResultCode where
  | ok
  | noReport
  | invalidLength
  | invalidPacket
  | desync
  | ioError
  | deviceError
  | sessionDead
  | illegalOp
  deriving DecidableEq, Repr

/-- The stored fields of `STATUS` (10_state.md R26). REPORT_PENDING is not stored (R31); bits 15:11 are hardwired 0. -/
structure Status where
  busy : Bool
  crcOk : Bool
  reportValid : Bool
  result : ResultCode
  dead : Bool
  qovf : Bool
  overlap : Bool
  deriving DecidableEq, Repr

/-- The core's place in an operation (10_state.md R40). -/
inductive Phase where
  | idle
  /-- byte `i` of `txbuf` is next to send -/
  | tx (i : Nat)
  | rxType
  | rxLen
  /-- payload byte `j` is next -/
  | rxPay (j : Nat)
  | rxCrcLo
  | rxCrcHi
  deriving DecidableEq, Repr

/-- The operations that can be in flight (10_state.md R40). -/
inductive OpKind where
  | send
  | receive
  | transact
  | pollReport
  deriving DecidableEq, Repr

/-- An entry of the report queue: a report frame (10_state.md R38). -/
structure QEntry where
  ftype : Byte
  payload : List Byte
  deriving DecidableEq, Repr

/-- An event of the DIAG trace: a frame's type and length (10_state.md R35). -/
inductive DiagEvent where
  | foreign (ftype len : Byte)
  | droppedReport (ftype len : Byte)
  | pollAnomaly (ftype len : Byte)
  | queueOverflow (ftype len : Byte)
  deriving DecidableEq, Repr

/-- One access of the host (30_encoding.md R95; 70_reset_and_hazards.md R253). -/
inductive HostAccess where
  /-- write `value` to the register at `index` -/
  | wr (index : Byte) (value : Nat)
  /-- read the register at `index` -/
  | rd (index : Byte)
  /-- hold until a read of `STATUS` returns BUSY = 0 -/
  | wait
  /-- assert the reset input (R240) -/
  | reset
  deriving DecidableEq, Repr

/-- The transmit transport's answer to a TxPut (20_memory.md R63). -/
inductive TxAnswer where
  | ok
  /-- a failure, and whether the byte offered reached the wire all the same (R63, B1; log 5, safe) -/
  | fail (reached : Bool)
  deriving DecidableEq, Repr

/-- The receive transport's answer to an RxRead (20_memory.md R64). -/
inductive RxAnswer where
  | byte (b : Byte)
  | fail
  deriving DecidableEq, Repr

/-- Which agent moves in a step (log 3). -/
inductive Turn where
  | host
  | core
  deriving DecidableEq, Repr

/-- The agents around the block: what each will do, and what they have seen. The MODEL's own fields (10_state.md
R42; logs 2, 3, 4, 14). -/
structure Env where
  /-- the host's accesses to come -/
  host : List HostAccess
  /-- whose turn it is, step by step -/
  sched : List Turn
  /-- the answers to the TxPuts to come; while it is empty the core holds -/
  tx : List TxAnswer
  /-- the answers to the RxReads to come; while it is empty the core holds -/
  rx : List RxAnswer
  /-- the answers to the RxNonEmptys to come -/
  rxNonEmpty : List Bool
  /-- how many RxNonEmptys were answered by a free value -/
  draws : Nat
  /-- the bytes that reached the wire, oldest first -/
  sent : List Byte
  /-- the bytes consumed from the receive stream, oldest first -/
  consumed : List Byte
  /-- the index and value of each host read, oldest first -/
  reads : List (Byte × Word)
  deriving DecidableEq, Repr

/-- Every piece of state the spec gives the machine (10_state.md R20), and the agents around it. -/
structure State where
  op : Byte
  status : Status
  cmdType : Byte
  cmdLen : Byte
  cmdPayload : Vector Byte 22
  crcDin : Byte
  crcAcc : Word
  crcOut : Word
  rspType : Byte
  rspLen : Byte
  rspCrc : Word
  rspPayload : Vector Byte 22
  classOut : BitVec 2
  repType : Byte
  repLen : Byte
  repPayload : Vector Byte 22
  queue : List QEntry
  diag : List DiagEvent
  phase : Phase
  opk : OpKind
  txbuf : List Byte
  scode : Code
  rType : Byte
  rLen : Byte
  rBuf : List Byte
  rLo : Byte
  /-- the MODEL's own: the CRC high byte of the frame that the present step completes (log 10) -/
  rHi : Byte
  env : Env
  deriving DecidableEq, Repr

/-- How the machine stops with a fault. -/
inductive Fault where
  /-- The core was to move in a hidden state that 10_state.md R40 excludes: `Tx(i)` with no byte `i` in `txbuf` or
  with an operation that sends nothing, or a receive phase of SEND. Raised by the core's turn; no run from reset
  reaches it (log 15, safe). -/
  | strayPhase
  deriving DecidableEq, Repr

/-- How the machine refuses an instruction. -/
inductive Refusal where
  /-- The instruction has no meaning in the model yet. Raised by a refused arm of `exec` only; safe. No arm is
  refused in this package. -/
  | notModelled (mnemonic : String)
  deriving DecidableEq, Repr

/-- `STATUS` after reset: 0x0000 (10_state.md R26). -/
def Status.reset : Status where
  busy := false
  crcOk := false
  reportValid := false
  result := .ok
  dead := false
  qovf := false
  overlap := false

/-- Agents that have done nothing and have nothing to do (logs 1, 2, 3, 4, 14). -/
def Env.reset : Env where
  host := []
  sched := []
  tx := []
  rx := []
  rxNonEmpty := []
  draws := 0
  sent := []
  consumed := []
  reads := []

/-- The machine right after reset (10_state.md R22, R26, R43; 70_reset_and_hazards.md R240). The values of `opk`,
`txbuf`, `scode`, `rType`, `rLen`, `rBuf`, `rLo` and `rHi` are a DESIGN CHOICE, unsafe (logs 7, 10): R43 gives them
none. -/
def State.reset : State where
  op := 0x00
  status := Status.reset
  cmdType := 0x00
  cmdLen := 0x00
  cmdPayload := Vector.replicate 22 0x00
  crcDin := 0x00
  crcAcc := 0xFFFF
  crcOut := 0x0000
  rspType := 0x00
  rspLen := 0x00
  rspCrc := 0x0000
  rspPayload := Vector.replicate 22 0x00
  classOut := 0b00
  repType := 0x00
  repLen := 0x00
  repPayload := Vector.replicate 22 0x00
  queue := []
  diag := []
  phase := .idle
  opk := .send
  txbuf := []
  scode := 0
  rType := 0x00
  rLen := 0x00
  rBuf := []
  rLo := 0x00
  rHi := 0x00
  env := Env.reset

end Sys2Proof.Machine
end

