-- ==== Sys2Proof/Machine/Flags.lean ====
section
/-! DEFINITION. What `STATUS` and the other views of stored state read as: the numbers of the result codes, the
status word, QCOUNT, the encoding of CLASS_OUT and the level outputs. -/

namespace Sys2Proof.Machine

/-- The number of a result code (60_exceptions.md R210). -/
def ResultCode.number : ResultCode → BitVec 4
  | .ok => 0x0
  | .noReport => 0x1
  | .invalidLength => 0x2
  | .invalidPacket => 0x3
  | .desync => 0x4
  | .ioError => 0x5
  | .deviceError => 0x6
  | .sessionDead => 0x7
  | .illegalOp => 0x8

/-- `REPORT_PENDING`: 1 exactly when the queue holds an entry (10_state.md R31). -/
def reportPending (s : State) : Bool := !s.queue.isEmpty

/-- A flag as a bit of a 16-bit register. -/
def flagBit (b : Bool) (k : Nat) : Word := (if b then 1 else 0 : Word) <<< k

/-- `STATUS` as the host reads it (10_state.md R26). -/
def statusWord (s : State) : Word :=
  flagBit s.status.busy 0 ||| flagBit s.status.crcOk 1 ||| flagBit s.status.reportValid 2
    ||| flagBit (reportPending s) 3 ||| (s.status.result.number.setWidth 16 <<< 4)
    ||| flagBit s.status.dead 8 ||| flagBit s.status.qovf 9 ||| flagBit s.status.overlap 10

/-- `QCOUNT`: the number of queued reports, saturated (10_state.md R38). -/
def qcount (s : State) : Word := BitVec.ofNat 16 (min s.queue.length 0xFFFF)

/-- The encoding of `CLASS_OUT` (30_encoding.md R97). -/
def kindNumber : Kind → BitVec 2
  | .normal => 0b00
  | .error => 0b01
  | .report => 0b10
  | .foreign => 0b11

/-- The level output `busy` (60_exceptions.md R219). -/
def busyOutput (s : State) : Bool := s.status.busy

/-- The level output `report_pending` (R219). -/
def reportPendingOutput (s : State) : Bool := reportPending s

end Sys2Proof.Machine
end

