-- ==== Sys2Proof/Machine/Operands.lean ====
section
/-! DEFINITION. The operands of the operations: the registers by name and index (10_state.md R22), the payload
arrays as byte lists and back, and what the operations latch of CMD and RSP (R33, R34, R41). -/

namespace Sys2Proof.Machine

/-- The registers of the host-visible file (10_state.md R22). -/
inductive Reg where
  | op
  | status
  | cmdType
  | cmdLen
  | crcDin
  | crcAcc
  | crcOut
  | rspType
  | rspLen
  | rspCrc
  | classOut
  | qcount
  | repType
  | repLen
  | cmdPayload (i : Fin 22)
  | rspPayload (i : Fin 22)
  | repPayload (i : Fin 22)
  deriving DecidableEq, Repr

/-- The index of a register (R22). -/
def Reg.index : Reg → Byte
  | .op => 0x00
  | .status => 0x01
  | .cmdType => 0x02
  | .cmdLen => 0x03
  | .crcDin => 0x04
  | .crcAcc => 0x05
  | .crcOut => 0x06
  | .rspType => 0x07
  | .rspLen => 0x08
  | .rspCrc => 0x09
  | .classOut => 0x0A
  | .qcount => 0x0B
  | .repType => 0x0C
  | .repLen => 0x0D
  | .cmdPayload i => BitVec.ofNat 8 (0x20 + i.val)
  | .rspPayload i => BitVec.ofNat 8 (0x40 + i.val)
  | .repPayload i => BitVec.ofNat 8 (0x60 + i.val)

/-- The register at an index, none at a reserved index (R22). -/
def Reg.ofIndex (index : Byte) : Option Reg :=
  let n := index.toNat
  if h : 0x20 ≤ n ∧ n < 0x36 then some (.cmdPayload ⟨n - 0x20, by omega⟩)
  else if h : 0x40 ≤ n ∧ n < 0x56 then some (.rspPayload ⟨n - 0x40, by omega⟩)
  else if h : 0x60 ≤ n ∧ n < 0x76 then some (.repPayload ⟨n - 0x60, by omega⟩)
  else match n with
    | 0x00 => some .op
    | 0x01 => some .status
    | 0x02 => some .cmdType
    | 0x03 => some .cmdLen
    | 0x04 => some .crcDin
    | 0x05 => some .crcAcc
    | 0x06 => some .crcOut
    | 0x07 => some .rspType
    | 0x08 => some .rspLen
    | 0x09 => some .rspCrc
    | 0x0A => some .classOut
    | 0x0B => some .qcount
    | 0x0C => some .repType
    | 0x0D => some .repLen
    | _ => none

/-- A payload array that holds `p` from index 0 and 0x00 beyond it (10_state.md R34, R39). -/
def payloadRegs (p : List Byte) : Vector Byte 22 :=
  ⟨((p ++ List.replicate 22 0x00).take 22).toArray, by simp⟩

/-- The first `n` entries of a payload array, in index order. -/
def payloadBytes (v : Vector Byte 22) (n : Byte) : List Byte := v.toList.take n.toNat

/-- `CMD_PAYLOAD[0..CMD_LEN-1]` (10_state.md R33). -/
def State.cmdBytes (s : State) : List Byte := payloadBytes s.cmdPayload s.cmdLen

/-- `RSP_PAYLOAD[0..RSP_LEN-1]` (10_state.md R34). -/
def State.rspBytes (s : State) : List Byte := payloadBytes s.rspPayload s.rspLen

/-- `REP_PAYLOAD[0..REP_LEN-1]` (10_state.md R39). -/
def State.repBytes (s : State) : List Byte := payloadBytes s.repPayload s.repLen

/-- `CMD_LEN > 22`: the length of the CMD frame is illegal (30_encoding.md R84). -/
def State.cmdLenIllegal (s : State) : Bool := decide (maxPayload < s.cmdLen.toNat)

/-- `CMD_TYPE[5:0]` (R94). -/
def State.cmdCode (s : State) : Code := typeCode s.cmdType

/-- The received CRC of the frame whose last byte has just been read (30_encoding.md R85). -/
def State.latchedCrc (s : State) : Word := crcJoin s.rLo s.rHi

end Sys2Proof.Machine
end

