-- ==== Sys2Proof/Machine/Ops.lean ====
section
/-! DEFINITION. The shared operations every meaning is made of: completion and overlap (the block takes no trap,
60_exceptions.md R214), the writes of RSP, REP, the queue and DIAG, the transport primitives, the frame writer, the
frame reader, the classifier, and what each operation does with a frame or a failure. -/

namespace Sys2Proof.Machine

/-! ### Issue, completion and overlap -/

/-- `finish(code)`: RESULT, BUSY and the return to Idle, at once (10_state.md R27; 00_scope.md R14). -/
def State.finish (s : State) (r : ResultCode) : State :=
  { s with status := { s.status with result := r, busy := false }, phase := .idle }

/-- The overlap fault: OVERLAP is set and the operation in flight goes on (60_exceptions.md R216). -/
def State.setOverlap (s : State) : State := { s with status := { s.status with overlap := true } }

/-- Issue of an operation: refused with the overlap fault while BUSY, else performed (10_state.md R25; first check of
60_exceptions.md R215). -/
def State.issue (s : State) (f : State → State) : State :=
  if s.status.busy then s.setOverlap else f s

/-- An operation that needs the transport is in flight, at its first phase (10_state.md R25, R40). -/
def State.begin (s : State) (k : OpKind) (ph : Phase) : State :=
  { s with status := { s.status with busy := true }, opk := k, phase := ph }

/-- `STATUS.DEAD <- 1` (10_state.md R32). -/
def State.setDead (s : State) : State := { s with status := { s.status with dead := true } }

/-- `STATUS.QOVF <- 1` (10_state.md R32). -/
def State.setQovf (s : State) : State := { s with status := { s.status with qovf := true } }

/-- Completion of POLL_REPORT, which alone writes REPORT_VALID (10_state.md R30). -/
def State.finishPoll (s : State) (valid : Bool) (r : ResultCode) : State :=
  { s with status := { s.status with reportValid := valid } }.finish r

/-! ### Writes of the frame registers, the queue and the trace -/

/-- `write RSP from (t, n, p, c)` (42_engine.md R177; 41_codec.md R152). -/
def State.writeRsp (s : State) (t : Byte) (p : List Byte) (c : Word) : State :=
  { s with rspType := t, rspLen := lengthByte p, rspPayload := payloadRegs p, rspCrc := c }

/-- `write REP from (t, p)` (42_engine.md R180). -/
def State.writeRep (s : State) (t : Byte) (p : List Byte) : State :=
  { s with repType := t, repLen := lengthByte p, repPayload := payloadRegs p }

/-- `Diag(e)` (10_state.md R35). -/
def State.log (s : State) (e : DiagEvent) : State := { s with diag := s.diag ++ [e] }

/-- The queue is at its capacity (42_engine.md R178; log 6). -/
def queueFull {R : Type} (P : Params R) (s : State) : Bool :=
  match P.qdepth with
  | none => false
  | some k => decide (k ≤ s.queue.length)

/-- `enqueue((t, p))` (42_engine.md R173), or the overflow of a full queue (R178). -/
def enqueue {R : Type} (P : Params R) (t : Byte) (p : List Byte) (s : State) : State :=
  if queueFull P s then (s.log (.queueOverflow t (lengthByte p))).setQovf
  else { s with queue := s.queue ++ [⟨t, p⟩] }

/-! ### Transport primitives -/

/-- The transmit transport has answered: the answer is used up. -/
def State.popTx (s : State) : State := { s with env := { s.env with tx := s.env.tx.tail } }

/-- A byte reached the wire (20_memory.md R63). -/
def State.putWire (s : State) (b : Byte) : State := { s with env := { s.env with sent := s.env.sent ++ [b] } }

/-- The receive transport answered Fail: the answer is used up, no byte is consumed (20_memory.md R64). -/
def State.popRx (s : State) : State := { s with env := { s.env with rx := s.env.rx.tail } }

/-- The receive transport answered Byte(b): the byte is consumed (20_memory.md R64). -/
def State.takeByte (s : State) (b : Byte) : State :=
  { s with env := { s.env with rx := s.env.rx.tail, consumed := s.env.consumed ++ [b] } }

/-- The answer of `RxNonEmpty()` (20_memory.md R65): the next listed answer, else a free value (log 4). -/
def State.rxNonEmpty (s : State) : Bool :=
  match s.env.rxNonEmpty with
  | b :: _ => b
  | [] => Config.rxNonEmptyDraw s.env.draws

/-- `RxNonEmpty()` has been asked: its answer is used up, and nothing is consumed from the stream (R65). -/
def State.askedRxNonEmpty (s : State) : State :=
  match s.env.rxNonEmpty with
  | _ :: rest => { s with env := { s.env with rxNonEmpty := rest } }
  | [] => { s with env := { s.env with draws := s.env.draws + 1 } }

/-! ### The frame writer -/

/-- The operation `k` latches the frame `l` and starts to send it (10_state.md R41; 41_codec.md R153). -/
def State.startWrite (s : State) (k : OpKind) (l : List Byte) : State :=
  { s.begin k (.tx 0) with txbuf := l }

/-- `Sent`: SEND completes (41_codec.md R151), TRANSACT reads its first frame (42_engine.md R175). -/
def State.sentAll (s : State) : State :=
  match s.opk with
  | .send => s.finish .ok
  | .transact => { s with phase := .rxType }
  | .receive => s
  | .pollReport => s

/-- Phase `Tx(i)`: byte `b` is offered to the transmit transport (41_codec.md R153; 20_memory.md R63). While the
transport does not answer, the core holds (42_engine.md R179). -/
def State.txByte (s : State) (i : Nat) (b : Byte) : State :=
  match s.env.tx with
  | [] => s
  | .ok :: _ =>
    let s := s.popTx.putWire b
    if i + 1 < s.txbuf.length then { s with phase := .tx (i + 1) } else s.sentAll
  | .fail reached :: _ =>
    (if reached then s.popTx.putWire b else s.popTx).finish .ioError

/-! ### The frame reader and what each operation does with its outcome -/

/-- DESYNC of an engine operation: DEAD is set (42_engine.md R184, R180). -/
def State.desync (s : State) : State :=
  match s.opk with
  | .pollReport => s.setDead.finishPoll false .desync
  | .transact => s.setDead.finish .desync
  | .receive => s
  | .send => s

/-- `IoFail` (41_codec.md R152; 42_engine.md R175, R180). -/
def State.ioFail (s : State) : State :=
  match s.opk with
  | .receive => s.finish .ioError
  | .transact => s.finish .ioError
  | .pollReport => s.finishPoll false .ioError
  | .send => s

/-- `Truncated`: IO_ERROR at codec level, DESYNC at engine level (41_codec.md R147, R152; 90_conflicts.md C1). -/
def State.truncated (s : State) : State :=
  match s.opk with
  | .receive => s.finish .ioError
  | .transact => s.desync
  | .pollReport => s.desync
  | .send => s

/-- `BadLength` (41_codec.md R146, R152; 42_engine.md R175, R180; 90_conflicts.md C7). -/
def State.badLength (s : State) : State :=
  match s.opk with
  | .receive => s.finish .invalidPacket
  | .transact => s.desync
  | .pollReport => s.desync
  | .send => s

/-- An `RxRead` answered Fail: `IoFail` at a frame's first byte, `Truncated` after it (41_codec.md R145, R147). -/
def State.rxFail (s : State) : State :=
  match s.phase with
  | .rxType => s.ioFail
  | .rxLen => s.truncated
  | .rxPay _ => s.truncated
  | .rxCrcLo => s.truncated
  | .rxCrcHi => s.truncated
  | .idle => s
  | .tx _ => s

/-- An `RxRead` answered Byte(b): the lines of `readFrame` up to the low CRC byte, and the latch of the high one
(41_codec.md R145). The length is checked before any payload byte is read (R146). -/
def State.rxByte (s : State) (b : Byte) : State :=
  match s.phase with
  | .rxType => { s with rType := b, phase := .rxLen }
  | .rxLen =>
    if maxPayload < b.toNat then { s with rLen := b }.badLength
    else { s with rLen := b, rBuf := [], phase := if b = 0 then .rxCrcLo else .rxPay 0 }
  | .rxPay j =>
    { s with rBuf := s.rBuf ++ [b], phase := if j + 1 < s.rLen.toNat then .rxPay (j + 1) else .rxCrcLo }
  | .rxCrcLo => { s with rLo := b, phase := .rxCrcHi }
  | .rxCrcHi => { s with rHi := b }
  | .idle => s
  | .tx _ => s

/-- `classify(t, s)` (42_engine.md R170). -/
def classifyType (t : Byte) (sent : Code) : Kind :=
  match (typeClass t).toNat, typeCode t == sent with
  | 1, true => .normal
  | 3, true => .error
  | 2, _ => .report
  | 1, false => .foreign
  | 3, false => .foreign
  | _, _ => .foreign

/-- The frame's CRC is checked before anything else is done with it (42_engine.md R176, R181). -/
def checkedFrame (t : Byte) (p : List Byte) (c : Word) (s : State) (f : State → State) : State :=
  if frameCrc t p = c then f s else s.desync

/-- TRANSACT, a Normal frame: it is the result (42_engine.md R176, R177). -/
def takeNormal (t : Byte) (p : List Byte) (c : Word) (s : State) : State := (s.writeRsp t p c).finish .ok

/-- TRANSACT, an Error frame (42_engine.md R176, R177). -/
def takeError (t : Byte) (p : List Byte) (c : Word) (s : State) : State := (s.writeRsp t p c).finish .deviceError

/-- TRANSACT, a Report frame: queued or dropped, and the loop goes on (42_engine.md R172, R176). -/
def takeReport {R : Type} (P : Params R) (t : Byte) (p : List Byte) (s : State) : State :=
  match P.reportDecode (typeCode t) p with
  | none => { s.log (.droppedReport t (lengthByte p)) with phase := .rxType }
  | some _ => { enqueue P t p s with phase := .rxType }

/-- TRANSACT, a Foreign frame: logged and discarded, and the loop goes on (42_engine.md R176). -/
def takeForeign (t : Byte) (p : List Byte) (s : State) : State :=
  { s.log (.foreign t (lengthByte p)) with phase := .rxType }

/-- `process(t, n, p, c)` of TRANSACT (42_engine.md R176). -/
def processFrame {R : Type} (P : Params R) (t : Byte) (p : List Byte) (c : Word) (s : State) : State :=
  checkedFrame t p c s fun s =>
    match classifyType t s.scode with
    | .report => takeReport P t p s
    | .normal => takeNormal t p c s
    | .error => takeError t p c s
    | .foreign => takeForeign t p s

/-- `pollProcess(t, n, p, c)` of POLL_REPORT (42_engine.md R181). -/
def pollProcess {R : Type} (P : Params R) (t : Byte) (p : List Byte) (c : Word) (s : State) : State :=
  checkedFrame t p c s fun s =>
    if typeClass t = 0b10 then
      match P.reportDecode (typeCode t) p with
      | some _ => (s.writeRep t p).finishPoll true .ok
      | none => (s.log (.droppedReport t (lengthByte p))).finishPoll false .noReport
    else (s.log (.pollAnomaly t (lengthByte p))).finishPoll false .noReport

/-- `Got(t, n, p, c)` for the operation in flight (41_codec.md R152; 42_engine.md R175, R180). -/
def gotFrame {R : Type} (P : Params R) (t : Byte) (p : List Byte) (c : Word) (s : State) : State :=
  match s.opk with
  | .receive => (s.writeRsp t p c).finish .ok
  | .transact => processFrame P t p c s
  | .pollReport => pollProcess P t p c s
  | .send => s

/-- A received-type row: at the last byte of a frame whose type byte is `t`, inside a TRANSACT, the frame's CRC is
checked and then `arm` is what R176 says of a frame of the row's kind. In another operation nothing is classified
(30_encoding.md R92) and the frame is handled as that operation handles it; where no frame is complete nothing
happens (log 9). -/
def receivedRow (t : Byte) (arm : List Byte → Word → State → State) (s : State) : State :=
  if s.phase = .rxCrcHi then
    if s.opk = .transact then checkedFrame t s.rBuf s.latchedCrc s (arm s.rBuf s.latchedCrc)
    else gotFrame Config.params t s.rBuf s.latchedCrc s
  else s

end Sys2Proof.Machine
end

