-- ==== Sys2Proof/Machine/Codec.lean ====
section
/-! DEFINITION. The packet framer's operations and rows: NOP, SEND, RECEIVE (41_codec.md R150 to R152), the wire
frame (30_encoding.md R80; 41_codec.md R145), and the illegal opcodes (60_exceptions.md R217). -/

namespace Sys2Proof.Machine

/-- NOP (R150). -/
def execNop (s : State) : Host.Outcome State Fault Refusal :=
  .next (s.issue fun s => s.finish .ok)

/-- SEND, its issue (R151): the bytes then go out in the core's turns, one a step (R153). -/
def execSend (s : State) : Host.Outcome State Fault Refusal :=
  .next (s.issue fun s =>
    if s.cmdLenIllegal then s.finish .invalidLength
    else s.startWrite .send (encodeFrame s.cmdType s.cmdBytes))

/-- RECEIVE, its issue (R152): the frame is then read in the core's turns, one byte a step (R145). -/
def execReceive (s : State) : Host.Outcome State Fault Refusal :=
  .next (s.issue fun s => s.begin .receive .rxType)

/-- FRAME: the reader has read the whole frame `(t, p, c)`, its last byte in this step, and the operation in flight
takes it (41_codec.md R145, R152; 42_engine.md R175, R180). Where no frame is complete nothing happens (log 9). -/
def execFrame (t : Byte) (p : List Byte) (c : Word) (s : State) : Host.Outcome State Fault Refusal :=
  .next (if s.phase = .rxCrcHi then gotFrame Config.params t p c s else s)

/-- ILLEGAL: opcodes 0x0B..0xFF complete at once with ILLEGAL_OP and change nothing else (30_encoding.md R90;
60_exceptions.md R217). -/
def execIllegal (_opcode : Byte) (s : State) : Host.Outcome State Fault Refusal :=
  .next (s.issue fun s => s.finish .illegalOp)

end Sys2Proof.Machine
end

