-- ==== Sys2Proof/Machine/CrcUnit.lean ====
section
/-! DEFINITION. The CRC generator and validator operations (40_crc.md R115 to R119). -/

namespace Sys2Proof.Machine

/-- CRC_INIT (R115). -/
def execCrcInit (s : State) : Host.Outcome State Fault Refusal :=
  .next (s.issue fun s => { s with crcAcc := 0xFFFF }.finish .ok)

/-- CRC_BYTE (R116). -/
def execCrcByte (s : State) : Host.Outcome State Fault Refusal :=
  .next (s.issue fun s => { s with crcAcc := crcStep s.crcAcc s.crcDin }.finish .ok)

/-- CRC_FINAL (R117). -/
def execCrcFinal (s : State) : Host.Outcome State Fault Refusal :=
  .next (s.issue fun s => { s with crcOut := ~~~ s.crcAcc }.finish .ok)

/-- CRC_FRAME (R118). -/
def execCrcFrame (s : State) : Host.Outcome State Fault Refusal :=
  .next (s.issue fun s =>
    if s.cmdLenIllegal then s.finish .invalidLength
    else { s with crcOut := crc16 ([s.cmdType, s.cmdLen] ++ s.cmdBytes) }.finish .ok)

/-- CHECK_CRC (R119; 10_state.md R29). -/
def execCheckCrc (s : State) : Host.Outcome State Fault Refusal :=
  .next (s.issue fun s =>
    { s with status := { s.status with
        crcOk := decide (crc16 ([s.rspType, s.rspLen] ++ s.rspBytes) = s.rspCrc) } }.finish .ok)

end Sys2Proof.Machine
end

