-- ==== Sys2Proof/Machine/Engine.lean ====
section
/-! DEFINITION. The transaction engine: CLASSIFY, TRANSACT and POLL_REPORT (42_engine.md R171, R175, R180), the rows
of a received type byte inside a transaction (R176), and the type byte a transaction sends (30_encoding.md R94). -/

namespace Sys2Proof.Machine

/-- CLASSIFY (R171). -/
def execClassify (s : State) : Host.Outcome State Fault Refusal :=
  .next (s.issue fun s => { s with classOut := kindNumber (classifyType s.rspType s.cmdCode) }.finish .ok)

/-- TRANSACT, its issue (R175): the length before the session (60_exceptions.md R215), then the command is latched
with class bits 0b00 (30_encoding.md R94). -/
def execTransact (s : State) : Host.Outcome State Fault Refusal :=
  .next (s.issue fun s =>
    if s.cmdLenIllegal then s.finish .invalidLength
    else if s.status.dead then s.finish .sessionDead
    else { s.startWrite .transact (encodeFrame (mkType 0b00 s.cmdCode) s.cmdBytes) with scode := s.cmdCode })

/-- POLL_REPORT, its issue (R180): the queue first, then the session, then the transport's buffer (R182). -/
def execPollReport (s : State) : Host.Outcome State Fault Refusal :=
  .next (s.issue fun s =>
    match s.queue with
    | e :: rest => ({ s with queue := rest }.writeRep e.ftype e.payload).finishPoll true .ok
    | [] =>
      if s.status.dead then s.finishPoll false .sessionDead
      else if s.rxNonEmpty then s.askedRxNonEmpty.begin .pollReport .rxType
      else s.askedRxNonEmpty.finishPoll false .noReport)

/-- RX_NORMAL: the transaction's response (R176, R177). -/
def execRxNormal (code : Code) (s : State) : Host.Outcome State Fault Refusal :=
  .next (receivedRow (mkType 0b01 code) (takeNormal (mkType 0b01 code)) s)

/-- RX_ERROR: the device rejected the command (R176, R177). -/
def execRxError (code : Code) (s : State) : Host.Outcome State Fault Refusal :=
  .next (receivedRow (mkType 0b11 code) (takeError (mkType 0b11 code)) s)

/-- RX_REPORT: queued or dropped (R172, R176, R178). -/
def execRxReport (code : Code) (s : State) : Host.Outcome State Fault Refusal :=
  .next (receivedRow (mkType 0b10 code) (fun p _ => takeReport Config.params (mkType 0b10 code) p) s)

/-- RX_FOREIGN_01: a normal response to another code, logged and discarded (R176). -/
def execRxForeign01 (code : Code) (s : State) : Host.Outcome State Fault Refusal :=
  .next (receivedRow (mkType 0b01 code) (fun p _ => takeForeign (mkType 0b01 code) p) s)

/-- RX_FOREIGN_11: an error response to another code, logged and discarded (R176). -/
def execRxForeign11 (code : Code) (s : State) : Host.Outcome State Fault Refusal :=
  .next (receivedRow (mkType 0b11 code) (fun p _ => takeForeign (mkType 0b11 code) p) s)

/-- RX_FOREIGN_00: a frame of class 0b00, logged and discarded (R176; 30_encoding.md R93). -/
def execRxForeign00 (code : Code) (s : State) : Host.Outcome State Fault Refusal :=
  .next (receivedRow (mkType 0b00 code) (fun p _ => takeForeign (mkType 0b00 code) p) s)

/-- TX_COMMAND_TYPE: the first byte of a TRANSACT's frame is offered to the transmit transport, class bits 0b00
(30_encoding.md R94; 41_codec.md R153). In another phase nothing is sent (log 9). -/
def execTxCommandType (code : Code) (s : State) : Host.Outcome State Fault Refusal :=
  .next (if s.phase = .tx 0 then s.txByte 0 (mkType 0b00 code) else s)

end Sys2Proof.Machine
end

