-- ==== Sys2Proof/Machine/Dispatch.lean ====
section
/-! DEFINITION. The dispatch: one arm per constructor of `Instr`, each a direct call of its meaning. -/

namespace Sys2Proof.Machine

def exec (i : Instr) (s : State) : Host.Outcome State Fault Refusal :=
  match i with
  | .nop => Sys2Proof.Machine.execNop s
  | .crcInit => Sys2Proof.Machine.execCrcInit s
  | .crcByte => Sys2Proof.Machine.execCrcByte s
  | .crcFinal => Sys2Proof.Machine.execCrcFinal s
  | .crcFrame => Sys2Proof.Machine.execCrcFrame s
  | .checkCrc => Sys2Proof.Machine.execCheckCrc s
  | .send => Sys2Proof.Machine.execSend s
  | .receive => Sys2Proof.Machine.execReceive s
  | .classify => Sys2Proof.Machine.execClassify s
  | .transact => Sys2Proof.Machine.execTransact s
  | .pollReport => Sys2Proof.Machine.execPollReport s
  | .illegal opcode => Sys2Proof.Machine.execIllegal opcode s
  | .rxNormal code => Sys2Proof.Machine.execRxNormal code s
  | .rxError code => Sys2Proof.Machine.execRxError code s
  | .rxReport code => Sys2Proof.Machine.execRxReport code s
  | .rxForeign01 code => Sys2Proof.Machine.execRxForeign01 code s
  | .rxForeign11 code => Sys2Proof.Machine.execRxForeign11 code s
  | .rxForeign00 code => Sys2Proof.Machine.execRxForeign00 code s
  | .txCommandType code => Sys2Proof.Machine.execTxCommandType code s
  | .frame t p c => Sys2Proof.Machine.execFrame t p c s

end Sys2Proof.Machine
end

