-- ==== Sys2Proof/Machine/HostPort.lean ====
section
/-! DEFINITION. The host's side of the block: register reads and writes by index (10_state.md R22 to R24), the reset
input (70_reset_and_hazards.md R240, R241). -/

namespace Sys2Proof.Machine

/-- What a host read of register `r` returns, zero-extended (10_state.md R22, R23; 20_memory.md R62). -/
def readReg (s : State) : Reg → Word
  | .op => 0
  | .status => statusWord s
  | .cmdType => s.cmdType.setWidth 16
  | .cmdLen => s.cmdLen.setWidth 16
  | .crcDin => s.crcDin.setWidth 16
  | .crcAcc => s.crcAcc
  | .crcOut => s.crcOut
  | .rspType => s.rspType.setWidth 16
  | .rspLen => s.rspLen.setWidth 16
  | .rspCrc => s.rspCrc
  | .classOut => s.classOut.setWidth 16
  | .qcount => qcount s
  | .repType => s.repType.setWidth 16
  | .repLen => s.repLen.setWidth 16
  | .cmdPayload i => s.cmdPayload[i].setWidth 16
  | .rspPayload i => s.rspPayload[i].setWidth 16
  | .repPayload i => s.repPayload[i].setWidth 16

/-- What a host read of an index returns; a reserved index reads 0 (10_state.md R23). -/
def readIndex (s : State) (index : Byte) : Word :=
  match Reg.ofIndex index with
  | some r => readReg s r
  | none => 0

/-- A host write of `v` to a register other than `OP`: truncated to the register's width, and without effect on a
read-only register (10_state.md R23). `OP` only stores the opcode here; the issue is the host's turn (R25; log 12). -/
def writeReg (s : State) (v : Nat) : Reg → State
  | .op => { s with op := BitVec.ofNat 8 v }
  | .cmdType => { s with cmdType := BitVec.ofNat 8 v }
  | .cmdLen => { s with cmdLen := BitVec.ofNat 8 v }
  | .crcDin => { s with crcDin := BitVec.ofNat 8 v }
  | .cmdPayload i => { s with cmdPayload := s.cmdPayload.set i (BitVec.ofNat 8 v) }
  | .status => s
  | .crcAcc => s
  | .crcOut => s
  | .rspType => s
  | .rspLen => s
  | .rspCrc => s
  | .classOut => s
  | .qcount => s
  | .repType => s
  | .repLen => s
  | .rspPayload _ => s
  | .repPayload _ => s

/-- A host write to an index; a reserved index ignores it (10_state.md R23). -/
def writeIndex (s : State) (index : Byte) (v : Nat) : State :=
  match Reg.ofIndex index with
  | some r => writeReg s v r
  | none => s

/-- The reset input: every piece of the block's state takes its reset value, and what the transports and the host
have done and will do stays (70_reset_and_hazards.md R240, R241; log 8). -/
def State.assertReset (s : State) : State := { State.reset with env := s.env }

/-- The host's next access is taken off its list. -/
def State.popHost (s : State) : State := { s with env := { s.env with host := s.env.host.tail } }

/-- A host read returned `v`. -/
def State.noteRead (s : State) (index : Byte) (v : Word) : State :=
  { s with env := { s.env with reads := s.env.reads ++ [(index, v)] } }

/-- The state in which a host write of `v` to `OP` is acted on: the access is taken and `OP` holds the opcode
(10_state.md R23, R25). -/
def State.fetchOp (s : State) (v : Nat) : State := { s.popHost with op := BitVec.ofNat 8 v }

end Sys2Proof.Machine
end

