-- ==== Sys2Proof/Machine/Turns.lean ====
section
/-! DEFINITION. One turn of the host and one turn of the core, where the instructions of the opcode table are
fetched, decoded and run, the choice of whose turn it is, and the placing of a table word where the next step fetches
it. -/

namespace Sys2Proof.Machine

/-- The hidden state is one that 10_state.md R40 excludes: nothing says what the core does next (log 15). -/
def strayPhase (s : State) : Bool :=
  match s.phase with
  | .idle => false
  | .tx i => decide (s.txbuf.length ≤ i) || decide (s.opk = .receive) || decide (s.opk = .pollReport)
  | .rxType => decide (s.opk = .send)
  | .rxLen => decide (s.opk = .send)
  | .rxPay _ => decide (s.opk = .send)
  | .rxCrcLo => decide (s.opk = .send)
  | .rxCrcHi => decide (s.opk = .send)

/-- The row the core runs when a frame is complete: inside a TRANSACT the received type byte against the sent code
(30_encoding.md R92), in another operation the frame (log 9). -/
def receivedInstr (s : State) : Instr :=
  if s.opk = .transact then decodeReceivedType s.scode s.rType else .frame s.rType s.rBuf s.latchedCrc

/-- The row the core runs when it sends byte `b` at phase `Tx(i)`, if it is one: the type byte of a TRANSACT
(30_encoding.md R94). -/
def sentInstr (s : State) (i : Nat) (b : Byte) : Option Instr :=
  if i = 0 ∧ s.opk = .transact then
    match decodeSentType b with
    | .ok r => some r
    | .error _ => none
  else none

/-- A byte answered at one of the reader's phases (41_codec.md R145): the last byte completes the frame, and what the
operation in flight does with it is the same step (42_engine.md R176). -/
def coreByte (b : Byte) (s : State) : Host.Outcome State Fault Refusal :=
  if s.phase = .rxCrcHi then
    let s := (s.takeByte b).rxByte b
    exec (receivedInstr s) s
  else .next ((s.takeByte b).rxByte b)

/-- One step of the core: one transport byte, or a hold while the transport does not answer (00_scope.md R10;
42_engine.md R179). -/
def coreTurn (s : State) : Host.Outcome State Fault Refusal :=
  if strayPhase s then .fault .strayPhase
  else match s.phase with
    | .idle => .next s
    | .tx i =>
      let b := s.txbuf.getD i 0
      match sentInstr s i b with
      | some r => exec r s
      | none => .next (s.txByte i b)
    | _ =>
      match s.env.rx with
      | [] => .next s
      | .fail :: _ => .next s.popRx.rxFail
      | .byte b :: _ => coreByte b s

/-- One access of the host (10_state.md R24; 30_encoding.md R95): a write to `OP` is where a host operation word is
fetched and run (10_state.md R25). -/
def hostTurn (s : State) : Host.Outcome State Fault Refusal :=
  match s.env.host with
  | [] => .next s
  | .wr index v :: _ =>
    if index = Reg.op.index then exec (decodeOperation (BitVec.ofNat 8 v)) (s.fetchOp v)
    else .next (writeIndex s.popHost index v)
  | .rd index :: _ => .next (s.popHost.noteRead index (readIndex s index))
  | .wait :: _ => if s.status.busy then .next s else .next s.popHost
  | .reset :: _ => .next s.popHost.assertReset

/-- The core has a transport answer to go on with. -/
def coreCanMove (s : State) : Bool :=
  match s.phase with
  | .idle => false
  | .tx _ => !s.env.tx.isEmpty
  | _ => !s.env.rx.isEmpty

/-- The host has an access to make and does not wait. -/
def hostCanMove (s : State) : Bool :=
  match s.env.host with
  | [] => false
  | .wait :: _ => !s.status.busy
  | _ => true

/-- Whose turn it is: the listed turn, and when none is listed the core if it can move, else the host if it can.
DESIGN CHOICE, log 3, unsafe. -/
def nextTurn (s : State) : Option Turn :=
  match s.env.sched with
  | t :: _ => some t
  | [] => if coreCanMove s then some .core else if hostCanMove s then some .host else none

/-- The listed turn is taken off the list. -/
def State.popTurn (s : State) : State := { s with env := { s.env with sched := s.env.sched.tail } }

/-- A host write of `w` to `OP` placed first, and the host's turn with it. -/
def State.placeOpWord (s : State) (w : Nat) : State :=
  { s with env := { s.env with host := .wr Reg.op.index w :: s.env.host, sched := .host :: s.env.sched } }

/-- A frame placed so that the next step completes it: its bytes but the last are read, the last is the receive
transport's next answer, the core's turn is next, and an operation that takes any frame is in flight (RECEIVE). -/
def State.placeFrame (s : State) (t : Byte) (p : List Byte) (c : Word) : State :=
  { s with
    status := { s.status with busy := true }
    phase := .rxCrcHi
    opk := .receive
    rType := t
    rLen := lengthByte p
    rBuf := p
    rLo := crcLow c
    env := { s.env with rx := .byte (crcHigh c) :: s.env.rx, sched := .core :: s.env.sched } }

/-- A received type byte placed so that the next step runs its row: a TRANSACT that sent code 0 is in flight and has
read all but the last byte of a frame of that type, with no payload and its correct CRC. -/
def State.placeReceived (s : State) (t : Byte) : State :=
  { s.placeFrame t [] (frameCrc t []) with opk := .transact, scode := 0 }

end Sys2Proof.Machine
end

