-- ==== Sys2Proof/Machine/Step.lean ====
section
/-! DEFINITION. The step of the machine: the agent whose turn it is moves once (00_scope.md R10, R11), and where a
table word is placed for the next step to fetch. -/

namespace Sys2Proof.Machine

/-- One step. Where no agent moves, the state stays as it is: the core holds (42_engine.md R179) or waits Idle for a
write to `OP` (70_reset_and_hazards.md R240). -/
def step (s : State) : Host.Outcome State Fault Refusal :=
  match nextTurn s with
  | none => .next s
  | some .host => hostTurn s.popTurn
  | some .core => coreTurn s.popTurn

/-- `s` with a table word placed where the next step fetches it (logs 1, 11): a host operation word as the host's next
write to `OP`, a received type byte as that of a frame a TRANSACT completes, a longer word as the frame that a RECEIVE
completes. A word that is no instruction is placed nowhere. -/
def State.withFetchWord (s : State) (nbits w : Nat) : State :=
  match decodeTableWord nbits w with
  | some (.frame t p c) => s.placeFrame t p c
  | some i =>
    if i.space 0 = .receivedType 0 then s.placeReceived (BitVec.ofNat 8 (w % 2 ^ nbits))
    else s.placeOpWord (w % 2 ^ nbits)
  | none => s

end Sys2Proof.Machine
end

