-- ==== Sys2Proof/Machine/Program.lean ====
section
/-! DEFINITION. The assembler of host programs (30_encoding.md R95, R96): statements, pseudo-instructions and their
expansion to host accesses, and a program's encoding as its host writes. -/

namespace Sys2Proof.Machine

/-- A statement or pseudo-instruction of a host program (R95, R96). -/
inductive Stmt where
  | wr (r : Reg) (value : Nat)
  | rd (r : Reg)
  | op (i : Instr)
  | wait
  | loadcmd (t : Byte) (p : List Byte)
  | xact (c : Byte) (p : List Byte)
  | poll
  | crcb (b : Byte)
  | sendf (t : Byte) (p : List Byte)
  | recv
  deriving DecidableEq, Repr

/-- `WR CMD_PAYLOAD[k], p[0]`; `WR CMD_PAYLOAD[k+1], p[1]`; and so on (R96). CMD_PAYLOAD has the entries 0..21 only
(10_state.md R22), and what the statements that take a payload write for a list of more than 22 bytes the spec does not
say: the model writes the first 22 bytes and, in `loadcmdAccesses`, the whole list's length (DESIGN CHOICE, log 19). -/
def payloadWrites : Nat → List Byte → List HostAccess
  | _, [] => []
  | k, b :: rest =>
    if h : k < 22 then .wr (Reg.cmdPayload ⟨k, h⟩).index b.toNat :: payloadWrites (k + 1) rest else []

/-- `LOADCMD t, [p0, ..., pn-1]` (R96); for `n` above 22 see log 19. -/
def loadcmdAccesses (t : Byte) (p : List Byte) : List HostAccess :=
  [.wr Reg.cmdType.index t.toNat, .wr Reg.cmdLen.index p.length] ++ payloadWrites 0 p

/-- `OP <mnemonic>`: the write of its opcode to `OP`; a row of another space is no operation and writes nothing (R95). -/
def opAccesses (i : Instr) : List HostAccess :=
  match i.space 0, encode i with
  | .operation, [b] => [.wr Reg.op.index b.toNat]
  | _, _ => []

/-- The host accesses a statement stands for, in order (R95, R96). -/
def Stmt.accesses : Stmt → List HostAccess
  | .wr r v => [.wr r.index v]
  | .rd r => [.rd r.index]
  | .op i => opAccesses i
  | .wait => [.wait]
  | .loadcmd t p => loadcmdAccesses t p
  | .xact c p => loadcmdAccesses c p ++ opAccesses .transact ++ [.wait]
  | .poll => opAccesses .pollReport ++ [.wait]
  | .crcb b => .wr Reg.crcDin.index b.toNat :: opAccesses .crcByte
  | .sendf t p => loadcmdAccesses t p ++ opAccesses .send ++ [.wait]
  | .recv => opAccesses .receive ++ [.wait]

/-- A program's host accesses. -/
def programAccesses (prog : List Stmt) : List HostAccess := (prog.map Stmt.accesses).flatten

/-- The host write (index, value) an access is, none for the others. -/
def HostAccess.asWrite : HostAccess → Option (Byte × Nat)
  | .wr index v => some (index, v)
  | .rd _ => none
  | .wait => none
  | .reset => none

/-- A program's encoding: its sequence of host writes (index, value) (R95). -/
def programEncoding (prog : List Stmt) : List (Byte × Nat) := (programAccesses prog).filterMap HostAccess.asWrite

end Sys2Proof.Machine
end

