-- ==== Sys2Proof/Machine/Frame.lean ====
section
/-! DEFINITION. A frame as a record (41_codec.md R140 to R142): where its CRC comes from, when two frames are equal, the
frames the CMD, RSP and REP registers and the queue hold, and the frame reader as a function of the whole receive stream
(R145). -/

namespace Sys2Proof.Machine

/-- Whether a frame was built for sending or read from the wire (R140). -/
inductive Origin where
  | constructed
  | received
  deriving DecidableEq, Repr

/-- A frame (R140); its length byte is the payload's length. `payload.length <= 22` always (R140; 00_scope.md R6). -/
structure Frame where
  ftype : Byte
  payload : List Byte
  crc : Word
  origin : Origin
  payload_le : payload.length ≤ maxPayload
  deriving DecidableEq, Repr

/-- The frame with these parts, none where the payload is above 22 bytes (R140, R144). -/
def Frame.ofParts (t : Byte) (p : List Byte) (c : Word) (o : Origin) : Option Frame :=
  if h : p.length ≤ maxPayload then some ⟨t, p, c, o, h⟩ else none

/-- A constructed frame carries the CRC of its own bytes (R141); a payload above 22 bytes is rejected (R144). -/
def constructFrame (t : Byte) (p : List Byte) : Option Frame := Frame.ofParts t p (frameCrc t p) .constructed

/-- Equality of frames is that of type and payload; CRC and origin are no part of it (R142). -/
def Frame.same (a b : Frame) : Bool := a.ftype == b.ftype && a.payload == b.payload

/-- The check of a received frame's CRC against a freshly computed one (R141; 40_crc.md R119). -/
def Frame.crcOk (f : Frame) : Bool := decide (frameCrc f.ftype f.payload = f.crc)

/-- The Constructed frame in CMD (R140; 10_state.md R33); none where CMD_LEN is 23..255 (R144). -/
def State.cmdFrame (s : State) : Option Frame :=
  if s.cmdLenIllegal then none else constructFrame s.cmdType s.cmdBytes

/-- The Received frame in RSP, with the CRC as it arrived (R140; 10_state.md R34). None where RSP_LEN is above 22, which
the invariant excludes (R34). -/
def State.rspFrame (s : State) : Option Frame :=
  if maxPayload < s.rspLen.toNat then none else Frame.ofParts s.rspType s.rspBytes s.rspCrc .received

/-- The Received frame of a queue entry (R140; 10_state.md R38). The entry stores no CRC: the one that arrived was
checked against the payload's before the entry was queued (42_engine.md R176; DEDUCED, log 20). None where the payload is
above 22 bytes, which the invariant excludes (R38). -/
def QEntry.frame (e : QEntry) : Option Frame := Frame.ofParts e.ftype e.payload (frameCrc e.ftype e.payload) .received

/-- The decoded report of a queue entry (10_state.md R38). -/
def reportOf {R : Type} (P : Params R) (e : QEntry) : Option R := P.reportDecode (typeCode e.ftype) e.payload

/-- The decoded report the host obtains from REP (10_state.md R39). -/
def State.repReport {R : Type} (P : Params R) (s : State) : Option R := P.reportDecode (typeCode s.repType) s.repBytes

/-! ### The frame reader over the whole receive stream -/

/-- How `readFrame` ends (R145), and that the stream has not answered far enough. -/
inductive ReadOutcome where
  /-- `Got(t, n, p, c)`, `n` being the payload's length, and the answers after the frame -/
  | got (t : Byte) (p : List Byte) (c : Word) (rest : List RxAnswer)
  /-- `BadLength(t, n)` -/
  | badLength (t n : Byte)
  | ioFail
  | truncated
  /-- the reader holds for an answer that has not come (42_engine.md R179) -/
  | holds
  deriving DecidableEq, Repr

/-- `n` bytes of a frame after its length byte: a Fail among them is `Truncated` (R145, R147). -/
def readBytes : Nat → List RxAnswer → Except ReadOutcome (List Byte × List RxAnswer)
  | 0, l => .ok ([], l)
  | _ + 1, [] => .error .holds
  | _ + 1, .fail :: _ => .error .truncated
  | n + 1, .byte b :: l =>
    match readBytes n l with
    | .ok (bytes, rest) => .ok (b :: bytes, rest)
    | .error e => .error e

/-- `readFrame()` on the answers the receive transport will give (R145 to R147); the core does it one answer a step. -/
def readFrame : List RxAnswer → ReadOutcome
  | [] => .holds
  | .fail :: _ => .ioFail
  | [.byte _] => .holds
  | .byte _ :: .fail :: _ => .truncated
  | .byte t :: .byte n :: l =>
    if maxPayload < n.toNat then .badLength t n
    else match readBytes n.toNat l with
      | .error e => e
      | .ok (p, tail) =>
        match readBytes 2 tail with
        | .ok ([lo, hi], rest) => .got t p (crcJoin lo hi) rest
        | .ok _ => .holds
        | .error e => e

end Sys2Proof.Machine
end

