-- ==== Sys2Proof/Safety.lean ====
section
/-! DEFINITION. What counts as a good state and a good run: the invariant of the block, the faulted states, the end of
a run and its observation, and what the transports owe. -/

namespace Sys2Proof.Machine

/-- What the hidden state holds at each phase (10_state.md R40; 41_codec.md R145, R153; 30_encoding.md R94). -/
def HiddenInv (s : State) : Prop :=
  match s.phase with
  | .idle => True
  | .tx i => i < s.txbuf.length ∧ ∃ p : List Byte, p.length ≤ maxPayload ∧
      ((s.opk = .send ∧ ∃ t, s.txbuf = encodeFrame t p) ∨
        (s.opk = .transact ∧ s.txbuf = encodeFrame (mkType 0b00 s.scode) p))
  | .rxType => s.opk ≠ .send
  | .rxLen => s.opk ≠ .send
  | .rxPay j => s.opk ≠ .send ∧ s.rBuf.length = j ∧ j < s.rLen.toNat ∧ s.rLen.toNat ≤ maxPayload
  | .rxCrcLo => s.opk ≠ .send ∧ s.rBuf.length = s.rLen.toNat ∧ s.rLen.toNat ≤ maxPayload
  | .rxCrcHi => s.opk ≠ .send ∧ s.rBuf.length = s.rLen.toNat ∧ s.rLen.toNat ≤ maxPayload

/-- The invariant of the block: what its spec says always holds. -/
structure Inv (s : State) : Prop where
  /-- `phase = Idle` exactly when BUSY = 0 (10_state.md R40). -/
  busy_iff : s.status.busy = true ↔ s.phase ≠ .idle
  /-- `RSP_LEN <= 22` always holds (10_state.md R34). -/
  rsp_len : s.rspLen.toNat ≤ maxPayload
  /-- RSP_PAYLOAD is 0x00 from RSP_LEN on (10_state.md R34). -/
  rsp_tail : ∀ i : Fin 22, s.rspLen.toNat ≤ i.val → s.rspPayload[i] = 0x00
  /-- REP_LEN is always 0..22 (10_state.md R22). -/
  rep_len : s.repLen.toNat ≤ maxPayload
  /-- REP_PAYLOAD is 0x00 from REP_LEN on (10_state.md R39). -/
  rep_tail : ∀ i : Fin 22, s.repLen.toNat ≤ i.val → s.repPayload[i] = 0x00
  /-- A returned report is a report frame that the decoder accepts (10_state.md R39). -/
  rep_valid : s.status.reportValid = true →
    typeClass s.repType = 0b10 ∧ (Config.reportDecode (typeCode s.repType) s.repBytes).isSome
  /-- Every entry of the queue is a report frame that the decoder accepts (10_state.md R38). -/
  queue_entries : ∀ e ∈ s.queue, typeClass e.ftype = 0b10 ∧ e.payload.length ≤ maxPayload ∧
    (Config.reportDecode (typeCode e.ftype) e.payload).isSome
  /-- The queue never holds more than QDEPTH entries (10_state.md R38). -/
  queue_cap : ∀ k, Config.qdepth = some k → s.queue.length ≤ k
  /-- No engine operation is in flight in a dead session (42_engine.md R184). -/
  alive : s.phase ≠ .idle → s.opk = .transact ∨ s.opk = .pollReport → s.status.dead = false
  /-- A POLL_REPORT that reads a frame has an empty queue (42_engine.md R181). -/
  poll_empty : s.phase ≠ .idle → s.opk = .pollReport → s.queue = []
  hidden : HiddenInv s

/-- A faulted state: a report was lost, or the host broke the one-in-flight rule (60_exceptions.md R213). -/
def Faulted (s : State) : Prop := s.status.qovf = true ∨ s.status.overlap = true

/-- The access issues an operation (10_state.md R25). -/
def HostAccess.issues : HostAccess → Bool
  | .wr index _ => index == Reg.op.index
  | .rd _ => false
  | .wait => false
  | .reset => false

/-- The end of a run: the core is Idle and the host issues no further operation (70_reset_and_hazards.md R252). -/
def RunEnded (s : State) : Prop :=
  s.phase = .idle ∧ s.status.busy = false ∧ ∀ a ∈ s.env.host, a.issues = false

/-- A good end of a run (60_exceptions.md R213). -/
def GoodEnd (s : State) : Prop := RunEnded s ∧ ¬Faulted s

/-- What is observed of a run's end (70_reset_and_hazards.md R252): the register file by index, the queue, the DIAG
trace, the sticky bits, and the bytes sent to and consumed from the transports. -/
structure Observation where
  registers : List Word
  queue : List QEntry
  diag : List DiagEvent
  dead : Bool
  qovf : Bool
  overlap : Bool
  sent : List Byte
  consumed : List Byte
  deriving DecidableEq, Repr

/-- The observation of a state (R252). -/
def observe (s : State) : Observation where
  registers := (List.range 256).map fun k => readIndex s (BitVec.ofNat 8 k)
  queue := s.queue
  diag := s.diag
  dead := s.status.dead
  qovf := s.status.qovf
  overlap := s.status.overlap
  sent := s.env.sent
  consumed := s.env.consumed

/-! ### The fairness of the transports (70_reset_and_hazards.md R249): assumptions on the environment, no steps of the
core (log 18). An answer that will eventually come stands in the agents' lists (log 2). -/

/-- The `TxPut` or `RxRead` that the phase asks for has its answer (R249). -/
def TransportAnswers (s : State) : Prop :=
  match s.phase with
  | .idle => True
  | .tx _ => s.env.tx ≠ []
  | _ => s.env.rx ≠ []

/-- The receive stream, read from a frame's start, delivers what ends a TRANSACT that sent `sent` (R249): a Normal frame,
an Error frame, a bad frame (an illegal length, a truncated frame or a CRC mismatch) or a Fail; report and foreign frames
before it are passed over (42_engine.md R175, R176). The first argument bounds the number of frames read. -/
def deliversEnd (sent : Code) : Nat → List RxAnswer → Bool
  | 0, _ => false
  | n + 1, l =>
    match readFrame l with
    | .holds => false
    | .ioFail => true
    | .truncated => true
    | .badLength _ _ => true
    | .got t p c rest =>
      if frameCrc t p = c then
        match classifyType t sent with
        | .normal => true
        | .error => true
        | .report => deliversEnd sent n rest
        | .foreign => deliversEnd sent n rest
      else true

/-- The bytes already read of the frame in progress (10_state.md R40; 41_codec.md R145). -/
def State.bytesRead (s : State) : List Byte :=
  match s.phase with
  | .idle => []
  | .tx _ => []
  | .rxType => []
  | .rxLen => [s.rType]
  | .rxPay _ => [s.rType, s.rLen] ++ s.rBuf
  | .rxCrcLo => [s.rType, s.rLen] ++ s.rBuf
  | .rxCrcHi => [s.rType, s.rLen] ++ s.rBuf ++ [s.rLo]

/-- For a TRANSACT in flight the receive stream, from the start of the frame in progress on, delivers what ends it
(R249). -/
def ResponseComes (s : State) : Prop :=
  s.phase ≠ .idle → s.opk = .transact →
    deliversEnd s.scode (s.env.rx.length + 1) (s.bytesRead.map .byte ++ s.env.rx) = true

/-- The fairness assumption of R249, along the whole run from `s`: in every state the run comes to, the transfer then
asked for is answered, so that EACH `TxPut` and `RxRead` is, and the stream of a TRANSACT then in flight comes to what ends
it. A claim that an operation terminates takes it as a premise (`TransportsFair.operation_ends` in Laws/Fairness.lean). -/
def TransportsFair (s : State) : Prop :=
  ∀ (n : Nat) (t : State), Host.Core.run Sys2Proof.core n s = .next t → TransportAnswers t ∧ ResponseComes t

end Sys2Proof.Machine
end

