-- ==== Sys2Proof/Certificates/Slice0/Obligations.lean ====
section
/-! DEFINITION. The statements for the provers. A step's statement names the turn it is about; where nothing is said
of a field, the equation with `{ s with … }` says that it is unchanged. -/

namespace Sys2Proof.Claims

open Sys2Proof Sys2Proof.Machine

/-- The reset input is what this step acts on. -/
def HostResets (s : State) : Prop := nextTurn s = some .host ∧ s.env.host.head? = some .reset

/-- A function of the next state, faults and refusals kept. -/
def onNext (f : State → State) : Host.Outcome State Fault Refusal → Host.Outcome State Fault Refusal
  | .next s => .next (f s)
  | .fault r => .fault r
  | .refused r => .refused r

/-- The host's operand registers at other values (10_state.md R22). -/
def withOperands (t n din : Byte) (p : Vector Byte 22) (s : State) : State :=
  { s with cmdType := t, cmdLen := n, cmdPayload := p, crcDin := din }

/-- What one report or foreign frame adds to the queue, the trace and QOVF during a TRANSACT that sent `sent`
(42_engine.md R172, R173, R176, R178). A queue longer than QDEPTH counts as full (log 6). -/
def absorb (sent : Code) (a : List QEntry × List DiagEvent × Bool) (f : Byte × List Byte) :
    List QEntry × List DiagEvent × Bool :=
  if classifyType f.1 sent = .foreign then (a.1, a.2.1 ++ [.foreign f.1 (lengthByte f.2)], a.2.2)
  else match Config.reportDecode (typeCode f.1) f.2, Config.qdepth with
    | none, _ => (a.1, a.2.1 ++ [.droppedReport f.1 (lengthByte f.2)], a.2.2)
    | some _, none => (a.1 ++ [⟨f.1, f.2⟩], a.2.1, a.2.2)
    | some _, some k =>
      if a.1.length < k then (a.1 ++ [⟨f.1, f.2⟩], a.2.1, a.2.2)
      else (a.1, a.2.1 ++ [.queueOverflow f.1 (lengthByte f.2)], true)

end Sys2Proof.Claims

open Sys2Proof Sys2Proof.Machine Sys2Proof.Claims

/-! ### The CRC unit (40_crc.md) -/

/-- R115. -/
def Obligations.CrcInitSetsAccumulator : Prop :=
  encode .crcInit = [0x01] ∧
  ∀ s : State, s.status.busy = false →
    exec .crcInit s = .next { s with
      crcAcc := 0xFFFF
      status := { s.status with result := .ok, busy := false }
      phase := .idle }

/-- R116, with its corner cases and example. -/
def Obligations.CrcByteAdvancesAccumulator : Prop :=
  encode .crcByte = [0x02] ∧
  crcStep 0x0000 0x00 = 0x0000 ∧ crcStep 0xFFFF 0xFF = 0x00FF ∧ crcStep 0xFFFF 0x31 = 0x2F8D ∧
  ∀ s : State, s.status.busy = false →
    exec .crcByte s = .next { s with
      crcAcc := crcStep s.crcAcc s.crcDin
      status := { s.status with result := .ok, busy := false }
      phase := .idle }

/-- R117, with its example. -/
def Obligations.CrcFinalComplementsAccumulator : Prop :=
  encode .crcFinal = [0x03] ∧
  crcRegister [0x31, 0x32, 0x33, 0x34, 0x35, 0x36, 0x37, 0x38, 0x39] = 0x6F91 ∧ ~~~(0x6F91 : Word) = 0x906E ∧
  ~~~(0xFFFF : Word) = 0x0000 ∧
  ∀ s : State, s.status.busy = false →
    exec .crcFinal s = .next { s with
      crcOut := ~~~s.crcAcc
      status := { s.status with result := .ok, busy := false }
      phase := .idle }

/-- R118: the generator, for a legal and for an illegal CMD_LEN, and that its result is the CRC SEND emits. -/
def Obligations.CrcFrameGeneratesCommandCrc : Prop :=
  encode .crcFrame = [0x04] ∧
  crc16 [0x00, 0x00] = 0x0F47 ∧ [crcLow 0x0F47, crcHigh 0x0F47] = [0x47, 0x0F] ∧
  ∀ s : State, s.status.busy = false →
    (s.cmdLen.toNat ≤ 22 →
      exec .crcFrame s = .next { s with
        crcOut := crc16 ([s.cmdType, s.cmdLen] ++ s.cmdPayload.toList.take s.cmdLen.toNat)
        status := { s.status with result := .ok, busy := false }
        phase := .idle } ∧
      encodeFrame s.cmdType s.cmdBytes =
        [s.cmdType, s.cmdLen] ++ s.cmdPayload.toList.take s.cmdLen.toNat ++
          [crcLow (crc16 ([s.cmdType, s.cmdLen] ++ s.cmdPayload.toList.take s.cmdLen.toNat)),
            crcHigh (crc16 ([s.cmdType, s.cmdLen] ++ s.cmdPayload.toList.take s.cmdLen.toNat))]) ∧
    (22 < s.cmdLen.toNat →
      exec .crcFrame s = .next { s with
        status := { s.status with result := .invalidLength, busy := false }
        phase := .idle })

/-- R119: the validator, with its corner case after reset and its example. -/
def Obligations.CheckCrcComparesResponseCrc : Prop :=
  encode .checkCrc = [0x05] ∧
  crc16 [0x00, 0x00] ≠ State.reset.rspCrc ∧ crc16 [0x46, 0x02, 0x01, 0x02] = 0x2E81 ∧
  crc16 [0x46, 0x02, 0x03, 0x02] ≠ 0x2E81 ∧
  ∀ s : State, s.status.busy = false →
    exec .checkCrc s = .next { s with
      status := { s.status with
        crcOk := decide (crc16 ([s.rspType, s.rspLen] ++ s.rspPayload.toList.take s.rspLen.toNat) = s.rspCrc)
        result := .ok
        busy := false }
      phase := .idle }

/-- R112: the printed table is `T[i] = crcStep(zext_16(i), 0x00)`, and the table-driven step is the bit-by-bit one,
on one byte and over every byte list. -/
def Obligations.CrcTableStepEqualsBitStep : Prop :=
  crcTable.length = 256 ∧
  (∀ i : Byte, crcTable.getD i.toNat 0 = crcStep (i.setWidth 16) 0x00) ∧
  (∀ (c : Word) (b : Byte), crcStepT c b = crcStep c b) ∧
  ∀ l : List Byte, ~~~(l.foldl crcStepT 0xFFFF) = crc16 l

/-- R120: the residue of a frame with its correct CRC. -/
def Obligations.CrcResidueOfValidFrame : Prop :=
  (∀ (t : Byte) (p : List Byte), crcRegister (encodeFrame t p) = 0xF0B8) ∧ ~~~(0xF0B8 : Word) = 0x0F47

/-- R121: one flipped payload bit changes the CRC, so CHECK_CRC of a frame that was valid gives CRC_OK = 0. -/
def Obligations.CheckCrcDetectsPayloadBitFlip : Prop :=
  (∀ (t : Byte) (p : List Byte) (i k : Nat) (_ : i < p.length), k < 8 →
    frameCrc t (p.set i (p[i] ^^^ (1#8 <<< k))) ≠ frameCrc t p) ∧
  ∀ (s : State) (i : Fin 22) (k : Nat), s.status.busy = false → s.rspLen.toNat ≤ 22 → i.val < s.rspLen.toNat → k < 8 →
    s.rspCrc = crc16 ([s.rspType, s.rspLen] ++ s.rspPayload.toList.take s.rspLen.toNat) →
    ∃ t, exec .checkCrc { s with rspPayload := s.rspPayload.set i (s.rspPayload[i] ^^^ (1#8 <<< k)) } = .next t ∧
      t.status.crcOk = false ∧ t.status.result = .ok

/-! ### Encodings (30_encoding.md) -/

/-- The model's decoders and encoder agree on every well-formed row of the opcode table. -/
def Obligations.DecodeOfEncode : Prop :=
  ∀ (sent : Code) (i : Instr), i.wellFormed sent = true → decode (i.space sent) (encode i) = .ok i

/-- Whatever bytes a space's decoder accepts are the encoding of a well-formed row of that space. -/
def Obligations.EncodeOfDecode : Prop :=
  ∀ (sent : Code) (sp : Space) (bytes : List Byte) (i : Instr),
    (∀ k, sp = .receivedType k → k = sent) → decode sp bytes = .ok i →
    encode i = bytes ∧ i.space sent = sp ∧ i.wellFormed sent = true

/-- R92: every received type byte is exactly one row of the table, for every sent code. -/
def Obligations.ReceivedTypeRowsTotalDisjoint : Prop :=
  ∀ (sent : Code) (t : Byte),
    ∃ i : Instr, i.space sent = .receivedType sent ∧ i.wellFormed sent = true ∧ encode i = [t] ∧
      ∀ j : Instr, j.space sent = .receivedType sent → j.wellFormed sent = true → encode j = [t] → j = i

/-- R84, R81: a length byte above 22 is rejected whatever follows it, and a frame cut short at any byte is truncated. -/
def Obligations.FrameDecodeRejectsBadBytes : Prop :=
  (∀ (t n : Byte) (rest : List Byte), 22 < n.toNat → decode .wireFrame (t :: n :: rest) = .error (.badLength n)) ∧
  ∀ (t : Byte) (p : List Byte) (c : Word) (k : Nat), p.length ≤ 22 → k < 4 + p.length →
    decode .wireFrame ((frameBytes t p c).take k) = .error .truncated

/-- R89, R90, R92, R94, R80 on written-out words, one and more of every space. -/
def Obligations.DecodesWrittenWords : Prop :=
  decode .operation [0b00000010] = .ok .crcByte ∧ decode .operation [0b00000110] = .ok .send ∧
  decode .operation [0b00001001] = .ok .transact ∧ decode .operation [0b00001011] = .ok (.illegal 0x0B) ∧
  decode (.receivedType 0x06) [0b01000110] = .ok (.rxNormal 0x06) ∧
  decode (.receivedType 0x06) [0b01000111] = .ok (.rxForeign01 0x07) ∧
  decode (.receivedType 0x06) [0b11000110] = .ok (.rxError 0x06) ∧
  decode .sentType [0b00000110] = .ok (.txCommandType 0x06) ∧
  decode .wireFrame [0x46, 0x02, 0x01, 0x02, 0x81, 0x2E] = .ok (.frame 0x46 [0x01, 0x02] 0x2E81)

/-- R22: each register has its index, and no other index has it. -/
def Obligations.RegisterIndexing : Prop :=
  (∀ r : Reg, Reg.ofIndex r.index = some r) ∧ ∀ (x : Byte) (r : Reg), Reg.ofIndex x = some r → r.index = x

/-- R96: the expansion of LOADCMD, XACT, CRCB, SENDF, POLL and RECV as host accesses, WAIT among them, for every payload
of at most 22 bytes; and R95: their encodings are the writes alone. -/
def Obligations.PseudoInstructionExpansion : Prop :=
  (∀ (t : Byte) (p : List Byte), p.length ≤ 22 →
    programAccesses [.loadcmd t p] =
      [.wr 0x02 t.toNat, .wr 0x03 p.length] ++ p.mapIdx (fun k b => .wr (BitVec.ofNat 8 (0x20 + k)) b.toNat) ∧
    programEncoding [.loadcmd t p] =
      [(0x02, t.toNat), (0x03, p.length)] ++ p.mapIdx fun k b => (BitVec.ofNat 8 (0x20 + k), b.toNat)) ∧
  (∀ (c : Byte) (p : List Byte), p.length ≤ 22 →
    programAccesses [.xact c p] = programAccesses [.loadcmd c p] ++ [.wr 0x00 0x09, .wait] ∧
    programEncoding [.xact c p] = programEncoding [.loadcmd c p] ++ [(0x00, 0x09)]) ∧
  (∀ b : Byte,
    programAccesses [.crcb b] = [.wr 0x04 b.toNat, .wr 0x00 0x02] ∧
    programEncoding [.crcb b] = [(0x04, b.toNat), (0x00, 0x02)]) ∧
  (∀ (t : Byte) (p : List Byte), p.length ≤ 22 →
    programAccesses [.sendf t p] = programAccesses [.loadcmd t p] ++ [.wr 0x00 0x06, .wait] ∧
    programEncoding [.sendf t p] = programEncoding [.loadcmd t p] ++ [(0x00, 0x06)]) ∧
  programAccesses [.poll] = [.wr 0x00 0x0A, .wait] ∧ programAccesses [.recv] = [.wr 0x00 0x07, .wait] ∧
  programEncoding [.poll] = [(0x00, 0x0A)] ∧ programEncoding [.recv] = [(0x00, 0x07)]

/-! ### The host port (10_state.md) -/

/-- R23: what a host write stores, and what it leaves alone, for every index but OP; what OP, the reserved bits of STATUS
and the reserved indices of R22 read. -/
def Obligations.HostWriteStoresTruncated : Prop :=
  (∀ (s : State) (x : Byte) (v : Nat) (rest : List HostAccess), nextTurn s = some .host →
    s.env.host = .wr x v :: rest → x ≠ 0x00 →
    step s = .next { s with
      cmdType := if x = 0x02 then BitVec.ofNat 8 v else s.cmdType
      cmdLen := if x = 0x03 then BitVec.ofNat 8 v else s.cmdLen
      crcDin := if x = 0x04 then BitVec.ofNat 8 v else s.crcDin
      cmdPayload :=
        if h : 0x20 ≤ x.toNat ∧ x.toNat < 0x36 then s.cmdPayload.set (x.toNat - 0x20) (BitVec.ofNat 8 v) (by omega)
        else s.cmdPayload
      env := { s.env with host := rest, sched := s.env.sched.tail } }) ∧
  (∀ s : State, readIndex s 0x00 = 0 ∧ (statusWord s).extractLsb' 11 5 = 0) ∧
  ∀ (s : State) (x : Byte),
    (0x0E ≤ x.toNat ∧ x.toNat ≤ 0x1F) ∨ (0x36 ≤ x.toNat ∧ x.toNat ≤ 0x3F) ∨ (0x56 ≤ x.toNat ∧ x.toNat ≤ 0x5F) ∨
      (0x76 ≤ x.toNat ∧ x.toNat ≤ 0xFF) → readIndex s x = 0

/-- R24, R67: a host read returns the register's value and changes nothing of the block. -/
def Obligations.HostReadHasNoSideEffect : Prop :=
  (∀ (s : State) (x : Byte) (rest : List HostAccess), nextTurn s = some .host → s.env.host = .rd x :: rest →
    step s = .next { s with
      env := { s.env with
        host := rest
        sched := s.env.sched.tail
        reads := s.env.reads ++ [(x, readIndex s x)] } }) ∧
  ∀ s : State,
    readIndex s 0x01 = statusWord s ∧ readIndex s 0x02 = s.cmdType.setWidth 16 ∧ readIndex s 0x03 = s.cmdLen.setWidth 16 ∧
    readIndex s 0x04 = s.crcDin.setWidth 16 ∧ readIndex s 0x05 = s.crcAcc ∧ readIndex s 0x06 = s.crcOut ∧
    readIndex s 0x07 = s.rspType.setWidth 16 ∧ readIndex s 0x08 = s.rspLen.setWidth 16 ∧ readIndex s 0x09 = s.rspCrc ∧
    readIndex s 0x0A = s.classOut.setWidth 16 ∧ readIndex s 0x0B = qcount s ∧ readIndex s 0x0C = s.repType.setWidth 16 ∧
    readIndex s 0x0D = s.repLen.setWidth 16 ∧
    ∀ i : Fin 22, readIndex s (BitVec.ofNat 8 (0x20 + i.val)) = s.cmdPayload[i].setWidth 16 ∧
      readIndex s (BitVec.ofNat 8 (0x40 + i.val)) = s.rspPayload[i].setWidth 16 ∧
      readIndex s (BitVec.ofNat 8 (0x60 + i.val)) = s.repPayload[i].setWidth 16

/-- R26, R31, R38, R219: the layout of STATUS, the live views of the queue, and the level outputs; R28, R210: the
numbers of the result codes. That QCOUNT is computed at each read and not stored is the model's reading (log 13). -/
def Obligations.StatusLayoutAndLiveViews : Prop :=
  (ResultCode.ok.number = 0x0 ∧ ResultCode.noReport.number = 0x1 ∧ ResultCode.invalidLength.number = 0x2 ∧
    ResultCode.invalidPacket.number = 0x3 ∧ ResultCode.desync.number = 0x4 ∧ ResultCode.ioError.number = 0x5 ∧
    ResultCode.deviceError.number = 0x6 ∧ ResultCode.sessionDead.number = 0x7 ∧ ResultCode.illegalOp.number = 0x8) ∧
  ∀ s : State,
    (statusWord s).getLsbD 0 = s.status.busy ∧ (statusWord s).getLsbD 1 = s.status.crcOk ∧
    (statusWord s).getLsbD 2 = s.status.reportValid ∧ (statusWord s).getLsbD 3 = !s.queue.isEmpty ∧
    (statusWord s).extractLsb' 4 4 = s.status.result.number ∧ (statusWord s).getLsbD 8 = s.status.dead ∧
    (statusWord s).getLsbD 9 = s.status.qovf ∧ (statusWord s).getLsbD 10 = s.status.overlap ∧
    (statusWord s).extractLsb' 11 5 = 0 ∧ (qcount s).toNat = min s.queue.length 0xFFFF ∧
    busyOutput s = (statusWord s).getLsbD 0 ∧ reportPendingOutput s = (statusWord s).getLsbD 3

/-- R95: WAIT holds while BUSY = 1 and ends when BUSY = 0. -/
def Obligations.WaitHoldsWhileBusy : Prop :=
  ∀ (s : State) (rest : List HostAccess), nextTurn s = some .host → s.env.host = .wait :: rest →
    step s = .next { s with
      env := { s.env with host := if s.status.busy then s.env.host else rest, sched := s.env.sched.tail } }

/-- R240, R241: the reset input in any state, an operation in flight included. The reset values of the hidden fields
but phase, the queue and the trace are the model's choice (logs 7, 10). -/
def Obligations.ResetRestoresResetState : Prop :=
  (∀ (s : State) (rest : List HostAccess), nextTurn s = some .host → s.env.host = .reset :: rest →
    step s = .next { State.reset with env := { s.env with host := rest, sched := s.env.sched.tail } }) ∧
  (∀ x : Byte, readIndex State.reset x = if x = 0x05 then 0xFFFF else 0x0000) ∧
  State.reset.op = 0x00 ∧ State.reset.status.busy = false ∧ State.reset.status.result = .ok ∧
  State.reset.status.dead = false ∧ State.reset.status.qovf = false ∧ State.reset.status.overlap = false ∧
  State.reset.status.crcOk = false ∧ State.reset.status.reportValid = false ∧
  State.reset.crcAcc = 0xFFFF ∧ State.reset.phase = .idle ∧ State.reset.queue = [] ∧ State.reset.diag = []

/-! ### A step runs the decoded instruction -/

/-- A host write to OP is decoded and run (10_state.md R25; 30_encoding.md R88), in whatever state. That a table word
below 0x40 is read as an operation word is the model's choice (log 11). -/
def Obligations.StepRunsHostOperation : Prop :=
  (∀ (s : State) (v : Nat) (rest : List HostAccess), nextTurn s = some .host → s.env.host = .wr 0x00 v :: rest →
    step s = exec (decodeOperation (BitVec.ofNat 8 v)) { s with
      op := BitVec.ofNat 8 v
      env := { s.env with host := rest, sched := s.env.sched.tail } }) ∧
  ∀ (s : State) (b : Byte), b.toNat < 0x40 →
    step (s.withFetchWord 8 b.toNat) = exec (decodeOperation b) { s with op := b }

/-- The rows of the wire, run by the core. At the last byte of a frame: inside a TRANSACT the received type byte's row
(30_encoding.md R92; 42_engine.md R176), in RECEIVE and POLL_REPORT the frame itself (41_codec.md R152; 42_engine.md
R181). At the first byte of a TRANSACT's frame: the row of the type byte sent (30_encoding.md R94). The rows as
instructions are the model's choice (log 9), and so is the field `rHi` that the last byte is latched in (log 10). -/
def Obligations.StepRunsWireRow : Prop :=
  (∀ (s : State) (b : Byte) (rest : List RxAnswer), nextTurn s = some .core → s.phase = .rxCrcHi → s.opk ≠ .send →
    s.env.rx = .byte b :: rest →
    step s = exec (if s.opk = .transact then decodeReceivedType s.scode s.rType
        else .frame s.rType s.rBuf (crcJoin s.rLo b)) { s with
      rHi := b
      env := { s.env with rx := rest, consumed := s.env.consumed ++ [b], sched := s.env.sched.tail } }) ∧
  ∀ (s : State) (k : Code) (more : List Byte), nextTurn s = some .core → s.phase = .tx 0 → s.opk = .transact →
    s.txbuf = mkType 0b00 k :: more →
    step s = exec (.txCommandType k) { s with env := { s.env with sched := s.env.sched.tail } }

/-! ### Operations without a transport, and the issue of the others -/

/-- R150. -/
def Obligations.NopOnlyCompletes : Prop :=
  encode .nop = [0x00] ∧
  ∀ s : State,
    (s.status.busy = false →
      exec .nop s = .next { s with status := { s.status with result := .ok, busy := false }, phase := .idle }) ∧
    (s.status.busy = true → exec .nop s = .next { s with status := { s.status with overlap := true } })

/-- R217, R90. -/
def Obligations.IllegalOpcodeOnlyReports : Prop :=
  (∀ b : Byte, 0x0B ≤ b.toNat → decodeOperation b = .illegal b) ∧
  ∀ (s : State) (b : Byte), s.status.busy = false →
    exec (.illegal b) s = .next { s with
      status := { s.status with result := .illegalOp, busy := false }
      phase := .idle }

/-- R216: any opcode written while BUSY = 1. That OP itself holds the opcode written is the model's reading (log 12). -/
def Obligations.OverlapLeavesOperationInFlight : Prop :=
  ∀ (s : State) (v : Nat) (rest : List HostAccess), s.status.busy = true → nextTurn s = some .host →
    s.env.host = .wr 0x00 v :: rest →
    step s = .next { s with
      op := BitVec.ofNat 8 v
      status := { s.status with overlap := true }
      env := { s.env with host := rest, sched := s.env.sched.tail } }

/-- R151, R144: SEND latches the frame to send, or fails with nothing sent. -/
def Obligations.SendIssueLatchesFrame : Prop :=
  ∀ s : State, s.status.busy = false →
    (s.cmdLen.toNat ≤ 22 →
      exec .send s = .next { s with
        status := { s.status with busy := true }
        opk := .send
        phase := .tx 0
        txbuf := [s.cmdType, s.cmdLen] ++ s.cmdPayload.toList.take s.cmdLen.toNat ++
          [crcLow (crc16 ([s.cmdType, s.cmdLen] ++ s.cmdPayload.toList.take s.cmdLen.toNat)),
            crcHigh (crc16 ([s.cmdType, s.cmdLen] ++ s.cmdPayload.toList.take s.cmdLen.toNat))] }) ∧
    (22 < s.cmdLen.toNat →
      exec .send s = .next { s with
        status := { s.status with result := .invalidLength, busy := false }
        phase := .idle })

/-- R152: RECEIVE starts to read a frame, in a dead session too (R184). -/
def Obligations.ReceiveIssueStartsReading : Prop :=
  ∀ s : State, s.status.busy = false →
    exec .receive s = .next { s with status := { s.status with busy := true }, opk := .receive, phase := .rxType }

/-- R171, with its example; R97: the encoding of CLASS_OUT. -/
def Obligations.ClassifyWritesClassOut : Prop :=
  encode .classify = [0x08] ∧
  kindNumber .normal = 0b00 ∧ kindNumber .error = 0b01 ∧ kindNumber .report = 0b10 ∧ kindNumber .foreign = 0b11 ∧
  kindNumber (classifyType 0x47 (typeCode 0x06)) = 0b11 ∧
  ∀ s : State, s.status.busy = false →
    exec .classify s = .next { s with
      classOut := kindNumber (classifyType s.rspType (s.cmdType.extractLsb' 0 6))
      status := { s.status with result := .ok, busy := false }
      phase := .idle }

/-- R170: the classifier on every class, code and sent code, and R82: every type byte has a class and a code. -/
def Obligations.ClassifierMatchesClassAndCode : Prop :=
  (∀ t : Byte, t = mkType (typeClass t) (typeCode t)) ∧
  ∀ k sent : Code,
    classifyType (mkType 0b01 sent) sent = .normal ∧ classifyType (mkType 0b11 sent) sent = .error ∧
    classifyType (mkType 0b10 k) sent = .report ∧ classifyType (mkType 0b00 k) sent = .foreign ∧
    (k ≠ sent → classifyType (mkType 0b01 k) sent = .foreign ∧ classifyType (mkType 0b11 k) sent = .foreign)

/-- R175 (its lines before LOOP), R184, R215: the length is checked before the session. -/
def Obligations.TransactIssueChecksThenSends : Prop :=
  ∀ s : State, s.status.busy = false →
    (22 < s.cmdLen.toNat →
      exec .transact s = .next { s with
        status := { s.status with result := .invalidLength, busy := false }
        phase := .idle }) ∧
    (s.cmdLen.toNat ≤ 22 → s.status.dead = true →
      exec .transact s = .next { s with
        status := { s.status with result := .sessionDead, busy := false }
        phase := .idle }) ∧
    (s.cmdLen.toNat ≤ 22 → s.status.dead = false →
      exec .transact s = .next { s with
        status := { s.status with busy := true }
        opk := .transact
        phase := .tx 0
        scode := s.cmdType.extractLsb' 0 6
        txbuf := encodeFrame (s.cmdType &&& 0x3F) (s.cmdPayload.toList.take s.cmdLen.toNat) })

/-- R94: the type byte TRANSACT sends has class 0b00, the one SEND sends is CMD_TYPE unchanged. -/
def Obligations.SentTypeByteOfTransactAndSend : Prop :=
  ∀ s : State, s.status.busy = false → s.cmdLen.toNat ≤ 22 →
    (s.status.dead = false →
      ∃ t, exec .transact s = .next t ∧ t.txbuf.head? = some (s.cmdType &&& 0x3F) ∧
        t.scode = s.cmdType.extractLsb' 0 6) ∧
    ∃ t, exec .send s = .next t ∧ t.txbuf.head? = some s.cmdType

/-- R180, R182 (the lines before `readFrame`): queue, then session, then the transport's buffer. Where no answer of
RxNonEmpty is listed, the answer is a free value (log 4). -/
def Obligations.PollReportIssueOrder : Prop :=
  ∀ s : State, s.status.busy = false →
    (∀ (e : QEntry) (rest : List QEntry), s.queue = e :: rest →
      exec .pollReport s = .next { s with
        queue := rest
        repType := e.ftype
        repLen := lengthByte e.payload
        repPayload := payloadRegs e.payload
        status := { s.status with reportValid := true, result := .ok, busy := false }
        phase := .idle }) ∧
    (s.queue = [] → s.status.dead = true →
      exec .pollReport s = .next { s with
        status := { s.status with reportValid := false, result := .sessionDead, busy := false }
        phase := .idle }) ∧
    (∀ (b : Bool) (rest : List Bool), s.queue = [] → s.status.dead = false → s.env.rxNonEmpty = b :: rest →
      exec .pollReport s = .next (if b then { s with
          status := { s.status with busy := true }
          opk := .pollReport
          phase := .rxType
          env := { s.env with rxNonEmpty := rest } }
        else { s with
          status := { s.status with reportValid := false, result := .noReport, busy := false }
          phase := .idle
          env := { s.env with rxNonEmpty := rest } })) ∧
    (s.queue = [] → s.status.dead = false → s.env.rxNonEmpty = [] →
      exec .pollReport s = .next (if Config.rxNonEmptyDraw s.env.draws then { s with
          status := { s.status with busy := true }
          opk := .pollReport
          phase := .rxType
          env := { s.env with draws := s.env.draws + 1 } }
        else { s with
          status := { s.status with reportValid := false, result := .noReport, busy := false }
          phase := .idle
          env := { s.env with draws := s.env.draws + 1 } }))

/-! ### The frame writer and the frame reader, byte by byte (41_codec.md) -/

/-- R153, R63: one transmit byte of SEND or TRANSACT, accepted, failed, or not answered. -/
def Obligations.TransmitByteStep : Prop :=
  ∀ (s : State) (i : Nat), nextTurn s = some .core → s.phase = .tx i → i < s.txbuf.length →
    (s.opk = .send ∨ s.opk = .transact) →
    (∀ rest, s.env.tx = .ok :: rest →
      step s = .next { s with
        phase := if i + 1 < s.txbuf.length then .tx (i + 1) else if s.opk = .send then .idle else .rxType
        status := if i + 1 < s.txbuf.length ∨ s.opk = .transact then s.status
          else { s.status with result := .ok, busy := false }
        env := { s.env with tx := rest, sent := s.env.sent ++ [s.txbuf.getD i 0], sched := s.env.sched.tail } }) ∧
    (∀ reached rest, s.env.tx = .fail reached :: rest →
      step s = .next { s with
        phase := .idle
        status := { s.status with result := .ioError, busy := false }
        env := { s.env with
          tx := rest
          sent := s.env.sent ++ (if reached then [s.txbuf.getD i 0] else [])
          sched := s.env.sched.tail } }) ∧
    (s.env.tx = [] → step s = .next { s with env := { s.env with sched := s.env.sched.tail } })

/-- TX_COMMAND_TYPE: the type byte of a TRANSACT is put on the wire with class 0b00 (30_encoding.md R94; 41_codec.md
R153; 20_memory.md R63). -/
def Obligations.TxCommandTypeSendsFirstByte : Prop :=
  ∀ (s : State) (k : Code), s.phase = .tx 0 → 1 < s.txbuf.length →
    (∀ rest, s.env.tx = .ok :: rest →
      exec (.txCommandType k) s = .next { s with
        phase := .tx 1
        env := { s.env with tx := rest, sent := s.env.sent ++ [k.setWidth 8] } }) ∧
    (s.env.tx = [] → exec (.txCommandType k) s = .next s) ∧
    ∀ reached rest, s.env.tx = .fail reached :: rest →
      exec (.txCommandType k) s = .next { s with
        phase := .idle
        status := { s.status with result := .ioError, busy := false }
        env := { s.env with tx := rest, sent := s.env.sent ++ (if reached then [k.setWidth 8] else []) } }

/-- R145: the reader's phases up to the low CRC byte, one byte a step. -/
def Obligations.ReaderByteStep : Prop :=
  ∀ (s : State) (b : Byte) (rest : List RxAnswer), nextTurn s = some .core → s.opk ≠ .send → s.env.rx = .byte b :: rest →
    (s.phase = .rxType →
      step s = .next { s with
        rType := b
        phase := .rxLen
        env := { s.env with rx := rest, consumed := s.env.consumed ++ [b], sched := s.env.sched.tail } }) ∧
    (s.phase = .rxLen → b.toNat ≤ 22 →
      step s = .next { s with
        rLen := b
        rBuf := []
        phase := if b = 0 then .rxCrcLo else .rxPay 0
        env := { s.env with rx := rest, consumed := s.env.consumed ++ [b], sched := s.env.sched.tail } }) ∧
    (∀ j, s.phase = .rxPay j →
      step s = .next { s with
        rBuf := s.rBuf ++ [b]
        phase := if j + 1 < s.rLen.toNat then .rxPay (j + 1) else .rxCrcLo
        env := { s.env with rx := rest, consumed := s.env.consumed ++ [b], sched := s.env.sched.tail } }) ∧
    (s.phase = .rxCrcLo →
      step s = .next { s with
        rLo := b
        phase := .rxCrcHi
        env := { s.env with rx := rest, consumed := s.env.consumed ++ [b], sched := s.env.sched.tail } })

/-- R146, R84: a length byte above 22 ends the operation in the step that reads it. -/
def Obligations.ReaderRejectsOversizedLength : Prop :=
  ∀ (s : State) (b : Byte) (rest : List RxAnswer), nextTurn s = some .core → s.phase = .rxLen →
    s.env.rx = .byte b :: rest → 22 < b.toNat →
    (s.opk = .receive →
      step s = .next { s with
        rLen := b
        phase := .idle
        status := { s.status with result := .invalidPacket, busy := false }
        env := { s.env with rx := rest, consumed := s.env.consumed ++ [b], sched := s.env.sched.tail } }) ∧
    (s.opk = .transact →
      step s = .next { s with
        rLen := b
        phase := .idle
        status := { s.status with dead := true, result := .desync, busy := false }
        env := { s.env with rx := rest, consumed := s.env.consumed ++ [b], sched := s.env.sched.tail } }) ∧
    (s.opk = .pollReport →
      step s = .next { s with
        rLen := b
        phase := .idle
        status := { s.status with dead := true, reportValid := false, result := .desync, busy := false }
        env := { s.env with rx := rest, consumed := s.env.consumed ++ [b], sched := s.env.sched.tail } })

/-- R147, R152, R175, R180: a transport failure at a frame's first byte, and after it. -/
def Obligations.ReaderFailureOutcome : Prop :=
  ∀ (s : State) (rest : List RxAnswer), nextTurn s = some .core → s.env.rx = .fail :: rest →
    (s.phase = .rxType ∨ s.phase = .rxLen ∨ (∃ j, s.phase = .rxPay j) ∨ s.phase = .rxCrcLo ∨ s.phase = .rxCrcHi) →
    (s.opk = .receive →
      step s = .next { s with
        phase := .idle
        status := { s.status with result := .ioError, busy := false }
        env := { s.env with rx := rest, sched := s.env.sched.tail } }) ∧
    (s.opk = .transact →
      step s = .next { s with
        phase := .idle
        status := if s.phase = .rxType then { s.status with result := .ioError, busy := false }
          else { s.status with dead := true, result := .desync, busy := false }
        env := { s.env with rx := rest, sched := s.env.sched.tail } }) ∧
    (s.opk = .pollReport →
      step s = .next { s with
        phase := .idle
        status := if s.phase = .rxType then { s.status with reportValid := false, result := .ioError, busy := false }
          else { s.status with dead := true, reportValid := false, result := .desync, busy := false }
        env := { s.env with rx := rest, sched := s.env.sched.tail } })

/-- R179: while the receive transport does not answer, the core holds. -/
def Obligations.CoreHoldsWithoutAnswer : Prop :=
  ∀ s : State, nextTurn s = some .core → s.opk ≠ .send → s.env.rx = [] →
    (s.phase = .rxType ∨ s.phase = .rxLen ∨ (∃ j, s.phase = .rxPay j) ∨ s.phase = .rxCrcLo ∨ s.phase = .rxCrcHi) →
    step s = .next { s with env := { s.env with sched := s.env.sched.tail } }

/-! ### What a received frame does (42_engine.md) -/

/-- R176, R177: RX_NORMAL and RX_ERROR end the transaction with the frame in RSP. The step runs a row only for the type
byte read against the sent code; for other codes the effect of exec is the model's choice (log 9), and so is the field
that holds the CRC high byte (log 10). -/
def Obligations.ResponseRowsEndTransaction : Prop :=
  ∀ (s : State) (k : Code), s.phase = .rxCrcHi → s.opk = .transact →
    (frameCrc (mkType 0b01 k) s.rBuf = crcJoin s.rLo s.rHi →
      exec (.rxNormal k) s = .next { s with
        rspType := mkType 0b01 k
        rspLen := lengthByte s.rBuf
        rspPayload := payloadRegs s.rBuf
        rspCrc := crcJoin s.rLo s.rHi
        status := { s.status with result := .ok, busy := false }
        phase := .idle }) ∧
    (frameCrc (mkType 0b11 k) s.rBuf = crcJoin s.rLo s.rHi →
      exec (.rxError k) s = .next { s with
        rspType := mkType 0b11 k
        rspLen := lengthByte s.rBuf
        rspPayload := payloadRegs s.rBuf
        rspCrc := crcJoin s.rLo s.rHi
        status := { s.status with result := .deviceError, busy := false }
        phase := .idle })

/-- R172, R173, R176, R178: RX_REPORT queues the report, drops it, or loses it to a full queue, and the loop goes on. The
model's choices: the overflow where more than QDEPTH entries are queued (R178 says `len(Q) = k`; log 6), the row for a code
other than the one read (log 9), the field that holds the CRC high byte (log 10). -/
def Obligations.ReportRowQueuesOrDrops : Prop :=
  ∀ (s : State) (k : Code), s.phase = .rxCrcHi → s.opk = .transact →
    frameCrc (mkType 0b10 k) s.rBuf = crcJoin s.rLo s.rHi →
    exec (.rxReport k) s = .next (match Config.reportDecode k s.rBuf, Config.qdepth with
      | none, _ => { s with
          diag := s.diag ++ [.droppedReport (mkType 0b10 k) (lengthByte s.rBuf)]
          phase := .rxType }
      | some _, none => { s with queue := s.queue ++ [⟨mkType 0b10 k, s.rBuf⟩], phase := .rxType }
      | some _, some depth =>
        if s.queue.length < depth then { s with queue := s.queue ++ [⟨mkType 0b10 k, s.rBuf⟩], phase := .rxType }
        else { s with
          diag := s.diag ++ [.queueOverflow (mkType 0b10 k) (lengthByte s.rBuf)]
          status := { s.status with qovf := true }
          phase := .rxType })

/-- R172, R173, R178 for every decoder and every depth: which of the three happens. -/
def Obligations.ReportHandlingForAllParameters : Prop :=
  ∀ (R : Type) (P : Params R) (t : Byte) (p : List Byte) (s : State),
    (P.reportDecode (typeCode t) p = none →
      takeReport P t p s = { s with diag := s.diag ++ [.droppedReport t (lengthByte p)], phase := .rxType }) ∧
    (∀ r, P.reportDecode (typeCode t) p = some r → P.qdepth = none →
      takeReport P t p s = { s with queue := s.queue ++ [⟨t, p⟩], phase := .rxType }) ∧
    (∀ r k, P.reportDecode (typeCode t) p = some r → P.qdepth = some k → s.queue.length < k →
      takeReport P t p s = { s with queue := s.queue ++ [⟨t, p⟩], phase := .rxType }) ∧
    (∀ r k, P.reportDecode (typeCode t) p = some r → P.qdepth = some k → s.queue.length = k →
      takeReport P t p s = { s with
        diag := s.diag ++ [.queueOverflow t (lengthByte p)]
        status := { s.status with qovf := true }
        phase := .rxType })

/-- R176: the three foreign rows are logged and discarded, and the loop goes on. The step runs RX_FOREIGN_01 and
RX_FOREIGN_11 only for a code other than the sent one (R92), and any row only for the type byte read; elsewhere the effect
of exec is the model's choice (log 9), and so is the field that holds the CRC high byte (log 10). -/
def Obligations.ForeignRowsLogAndContinue : Prop :=
  ∀ (s : State) (k : Code), s.phase = .rxCrcHi → s.opk = .transact →
    (frameCrc (mkType 0b01 k) s.rBuf = crcJoin s.rLo s.rHi →
      exec (.rxForeign01 k) s = .next { s with
        diag := s.diag ++ [.foreign (mkType 0b01 k) (lengthByte s.rBuf)]
        phase := .rxType }) ∧
    (frameCrc (mkType 0b11 k) s.rBuf = crcJoin s.rLo s.rHi →
      exec (.rxForeign11 k) s = .next { s with
        diag := s.diag ++ [.foreign (mkType 0b11 k) (lengthByte s.rBuf)]
        phase := .rxType }) ∧
    (frameCrc (mkType 0b00 k) s.rBuf = crcJoin s.rLo s.rHi →
      exec (.rxForeign00 k) s = .next { s with
        diag := s.diag ++ [.foreign (mkType 0b00 k) (lengthByte s.rBuf)]
        phase := .rxType })

/-- R176, R184: a CRC mismatch is DESYNC whatever the frame would have classified as. For a type byte or a sent code that
is not the one in the state, which the step never runs, the effect of exec is the model's choice (log 9), and so is the
field that holds the CRC high byte (log 10). -/
def Obligations.CrcMismatchDesynchronises : Prop :=
  ∀ (s : State) (t : Byte) (sent : Code), s.phase = .rxCrcHi → s.opk = .transact →
    frameCrc t s.rBuf ≠ crcJoin s.rLo s.rHi →
    exec (decodeReceivedType sent t) s = .next { s with
      status := { s.status with dead := true, result := .desync, busy := false }
      phase := .idle }

/-- FRAME in RECEIVE: delivered with its CRC as received, unchecked (41_codec.md R148, R152), for every well-formed frame.
The step runs the frame that was read; for another one the effect of exec is the model's choice (log 9). -/
def Obligations.FrameDeliveredByReceive : Prop :=
  ∀ (s : State) (t : Byte) (p : List Byte) (c : Word), p.length ≤ 22 → s.phase = .rxCrcHi → s.opk = .receive →
    exec (.frame t p c) s = .next { s with
      rspType := t
      rspLen := lengthByte p
      rspPayload := payloadRegs p
      rspCrc := c
      status := { s.status with result := .ok, busy := false }
      phase := .idle }

/-- FRAME in POLL_REPORT: one frame at most, its CRC first, then its class (42_engine.md R181), for every well-formed frame.
The step runs the frame that was read; for another one the effect of exec is the model's choice (log 9). -/
def Obligations.FrameEndsPollReport : Prop :=
  ∀ (s : State) (t : Byte) (p : List Byte) (c : Word), p.length ≤ 22 → s.phase = .rxCrcHi → s.opk = .pollReport →
    exec (.frame t p c) s = .next (
      if frameCrc t p ≠ c then { s with
        status := { s.status with dead := true, reportValid := false, result := .desync, busy := false }
        phase := .idle }
      else if typeClass t ≠ 0b10 then { s with
        diag := s.diag ++ [.pollAnomaly t (lengthByte p)]
        status := { s.status with reportValid := false, result := .noReport, busy := false }
        phase := .idle }
      else match Config.reportDecode (typeCode t) p with
        | none => { s with
            diag := s.diag ++ [.droppedReport t (lengthByte p)]
            status := { s.status with reportValid := false, result := .noReport, busy := false }
            phase := .idle }
        | some _ => { s with
            repType := t
            repLen := lengthByte p
            repPayload := payloadRegs p
            status := { s.status with reportValid := true, result := .ok, busy := false }
            phase := .idle })

/-- FRAME in TRANSACT does what the row of its type byte against the sent code does (42_engine.md R176). That both are
instructions is the model's choice (log 9). -/
def Obligations.FrameAgreesWithReceivedTypeRow : Prop :=
  ∀ s : State, s.phase = .rxCrcHi → s.opk = .transact →
    exec (.frame s.rType s.rBuf (crcJoin s.rLo s.rHi)) s = exec (decodeReceivedType s.scode s.rType) s

/-- The model's choice for the rows of the received type, of the sent type and of the frame in states where their
space is not being read (log 9): where no frame is complete, or no type byte is to be sent, nothing happens; in an
operation other than TRANSACT a received-type row is that operation's handling of the frame. -/
def Obligations.WireRowsOutsideTheirSpace : Prop :=
  ∀ s : State,
    (s.phase ≠ .rxCrcHi → ∀ k : Code, exec (.rxNormal k) s = .next s ∧ exec (.rxError k) s = .next s ∧
      exec (.rxReport k) s = .next s ∧ exec (.rxForeign01 k) s = .next s ∧ exec (.rxForeign11 k) s = .next s ∧
      exec (.rxForeign00 k) s = .next s ∧ ∀ t p c, exec (.frame t p c) s = .next s) ∧
    (s.phase ≠ .tx 0 → ∀ k : Code, exec (.txCommandType k) s = .next s) ∧
    (s.phase = .rxCrcHi → s.opk ≠ .transact → ∀ k : Code,
      exec (.rxNormal k) s = exec (.frame (mkType 0b01 k) s.rBuf (crcJoin s.rLo s.rHi)) s ∧
      exec (.rxError k) s = exec (.frame (mkType 0b11 k) s.rBuf (crcJoin s.rLo s.rHi)) s ∧
      exec (.rxReport k) s = exec (.frame (mkType 0b10 k) s.rBuf (crcJoin s.rLo s.rHi)) s ∧
      exec (.rxForeign01 k) s = exec (.frame (mkType 0b01 k) s.rBuf (crcJoin s.rLo s.rHi)) s ∧
      exec (.rxForeign11 k) s = exec (.frame (mkType 0b11 k) s.rBuf (crcJoin s.rLo s.rHi)) s ∧
      exec (.rxForeign00 k) s = exec (.frame (mkType 0b00 k) s.rBuf (crcJoin s.rLo s.rHi)) s) ∧
    (s.phase = .rxCrcHi → s.opk = .send → ∀ t p c, exec (.frame t p c) s = .next s)

/-! ### Whole operations -/

/-- R151, R153: a SEND whose transport accepts every byte, from its issue to its completion. The model's choices: the order
of turns where none is listed (log 3), `opk` and `txbuf` of the Idle core at the end (log 8), the byte OP holds (log 12). -/
def Obligations.SendRunTransmitsFrame : Prop :=
  ∀ (s : State) (hrest : List HostAccess) (rest : List TxAnswer),
    s.status.busy = false → s.phase = .idle → s.cmdLen.toNat ≤ 22 → s.env.sched = [] →
    s.env.host = .wr 0x00 0x06 :: hrest → s.env.tx = List.replicate (4 + s.cmdLen.toNat) .ok ++ rest →
    Host.Core.run Sys2Proof.core (1 + (4 + s.cmdLen.toNat)) s = .next { s with
      op := 0x06
      opk := .send
      txbuf := encodeFrame s.cmdType s.cmdBytes
      status := { s.status with result := .ok, busy := false }
      env := { s.env with
        host := hrest
        tx := rest
        sent := s.env.sent ++ encodeFrame s.cmdType s.cmdBytes } }

/-- R149, R148: a RECEIVE of any frame, from its issue to its completion, and the CHECK_CRC after it. The model's choices:
the order of turns where none is listed (log 3), the hidden fields of the Idle core at the end (log 8), `rHi` (log 10), the
byte OP holds (log 12). -/
def Obligations.ReceiveRunDecodesFrame : Prop :=
  ∀ (s : State) (t : Byte) (p : List Byte) (c : Word) (hrest : List HostAccess) (rest : List RxAnswer),
    s.status.busy = false → s.phase = .idle → p.length ≤ 22 → s.env.sched = [] →
    s.env.host = .wr 0x00 0x07 :: hrest → s.env.rx = (frameBytes t p c).map .byte ++ rest →
    ∃ u v, Host.Core.run Sys2Proof.core (1 + (4 + p.length)) s = .next u ∧
      u = { s with
        op := 0x07
        opk := .receive
        rType := t
        rLen := lengthByte p
        rBuf := p
        rLo := crcLow c
        rHi := crcHigh c
        rspType := t
        rspLen := lengthByte p
        rspPayload := payloadRegs p
        rspCrc := c
        status := { s.status with result := .ok, busy := false }
        env := { s.env with
          host := hrest
          rx := rest
          consumed := s.env.consumed ++ frameBytes t p c } } ∧
      u.rspBytes = p ∧ exec .checkCrc u = .next v ∧ v.status.crcOk = decide (frameCrc t p = c)

/-- R177, R251: a TRANSACT answered at once by a Normal or an Error frame of the sent code, from its issue to its
completion, in `len(txbuf) + 4 + n` transport steps and the issue step. The model's choices: the order of turns where none
is listed (log 3), the hidden fields of the Idle core at the end (log 8), `rHi` (log 10), the byte OP holds (log 12). -/
def Obligations.TransactRunReturnsResponse : Prop :=
  ∀ (s : State) (rejected : Bool) (p : List Byte) (hrest : List HostAccess) (txrest : List TxAnswer)
    (rest : List RxAnswer),
    s.status.busy = false → s.phase = .idle → s.status.dead = false → s.cmdLen.toNat ≤ 22 → p.length ≤ 22 →
    s.env.sched = [] → s.env.host = .wr 0x00 0x09 :: hrest →
    s.env.tx = List.replicate (4 + s.cmdLen.toNat) .ok ++ txrest →
    s.env.rx = (encodeFrame (mkType (if rejected then 0b11 else 0b01) s.cmdCode) p).map .byte ++ rest →
    Host.Core.run Sys2Proof.core (1 + (4 + s.cmdLen.toNat) + (4 + p.length)) s = .next { s with
      op := 0x09
      opk := .transact
      scode := s.cmdCode
      txbuf := encodeFrame (s.cmdType &&& 0x3F) s.cmdBytes
      rType := mkType (if rejected then 0b11 else 0b01) s.cmdCode
      rLen := lengthByte p
      rBuf := p
      rLo := crcLow (frameCrc (mkType (if rejected then 0b11 else 0b01) s.cmdCode) p)
      rHi := crcHigh (frameCrc (mkType (if rejected then 0b11 else 0b01) s.cmdCode) p)
      rspType := mkType (if rejected then 0b11 else 0b01) s.cmdCode
      rspLen := lengthByte p
      rspPayload := payloadRegs p
      rspCrc := frameCrc (mkType (if rejected then 0b11 else 0b01) s.cmdCode) p
      status := { s.status with result := if rejected then .deviceError else .ok, busy := false }
      env := { s.env with
        host := hrest
        tx := txrest
        rx := rest
        sent := s.env.sent ++ encodeFrame (s.cmdType &&& 0x3F) s.cmdBytes
        consumed := s.env.consumed ++ encodeFrame (mkType (if rejected then 0b11 else 0b01) s.cmdCode) p } }

/-- R172, R173, R176, R178: a TRANSACT reads any number of report and foreign frames, in order, without ending. The model's
choices: the order of turns where none is listed (log 3), the overflow of a queue longer than QDEPTH (log 6). -/
def Obligations.TransactAbsorbsReportsAndForeign : Prop :=
  ∀ (s : State) (fs : List (Byte × List Byte)) (rest : List RxAnswer),
    s.phase = .rxType → s.opk = .transact → s.env.sched = [] →
    (∀ f ∈ fs, f.2.length ≤ 22 ∧ (classifyType f.1 s.scode = .report ∨ classifyType f.1 s.scode = .foreign)) →
    s.env.rx = ((fs.map fun f => encodeFrame f.1 f.2).flatten).map .byte ++ rest →
    ∃ u, Host.Core.run Sys2Proof.core ((fs.map fun f => encodeFrame f.1 f.2).flatten.length) s = .next u ∧
      (u.queue, u.diag, u.status.qovf) = fs.foldl (absorb s.scode) (s.queue, s.diag, s.status.qovf) ∧
      u.env = { s.env with
        rx := rest
        consumed := s.env.consumed ++ (fs.map fun f => encodeFrame f.1 f.2).flatten } ∧
      u = { s with
        queue := u.queue
        diag := u.diag
        status := { s.status with qovf := u.status.qovf }
        rType := u.rType
        rLen := u.rLen
        rBuf := u.rBuf
        rLo := u.rLo
        rHi := u.rHi
        env := u.env }

/-! ### Whole-machine rules -/

/-- The invariant holds after reset (10_state.md R34, R38, R39, R40; 70_reset_and_hazards.md R240). -/
def Obligations.InvariantAtReset : Prop := Inv State.reset

/-- Every step keeps the invariant, from every state that has it (10_state.md R34, R38, R39, R40). -/
def Obligations.StepKeepsInvariant : Prop := ∀ s t : State, Inv s → step s = .next t → Inv t

/-- R214: the block takes no trap: where the invariant holds, every step answers a next state. -/
def Obligations.StepNeverStops : Prop := ∀ s : State, Inv s → ∃ t, step s = .next t

/-- R27, R245: until the completion step the result registers hold what the previous operation left. -/
def Obligations.ResultsChangeOnlyAtCompletion : Prop :=
  ∀ s t : State, step s = .next t → s.status.busy = true → t.status.busy = true →
    t.status.result = s.status.result ∧ t.status.crcOk = s.status.crcOk ∧ t.status.reportValid = s.status.reportValid ∧
    t.crcAcc = s.crcAcc ∧ t.crcOut = s.crcOut ∧ t.classOut = s.classOut ∧
    t.rspType = s.rspType ∧ t.rspLen = s.rspLen ∧ t.rspPayload = s.rspPayload ∧ t.rspCrc = s.rspCrc ∧
    t.repType = s.repType ∧ t.repLen = s.repLen ∧ t.repPayload = s.repPayload

/-- R32, R184, R178, R216: only reset clears a sticky bit, and what sets each of them. -/
def Obligations.StickyBitsSetAndKept : Prop :=
  ∀ s t : State, step s = .next t → ¬HostResets s →
    (s.status.dead = true → t.status.dead = true) ∧ (s.status.qovf = true → t.status.qovf = true) ∧
    (s.status.overlap = true → t.status.overlap = true) ∧
    (s.status.dead = false → t.status.dead = true →
      (s.opk = .transact ∨ s.opk = .pollReport) ∧ t.status.result = .desync ∧ t.status.busy = false) ∧
    (s.status.qovf = false → t.status.qovf = true →
      s.opk = .transact ∧ s.phase = .rxCrcHi ∧ t.queue = s.queue ∧ ∃ k, Config.qdepth = some k ∧ k ≤ s.queue.length) ∧
    (s.status.overlap = false → t.status.overlap = true →
      s.status.busy = true ∧ nextTurn s = some .host ∧ ∃ v, s.env.host.head? = some (.wr 0x00 v))

/-- R38, R173, R174: only TRANSACT (append), POLL_REPORT (remove from the head) and reset change the queue. -/
def Obligations.QueueChangesOnlyByEngine : Prop :=
  ∀ s t : State, step s = .next t → ¬HostResets s → t.queue ≠ s.queue →
    (nextTurn s = some .core ∧ s.opk = .transact ∧ s.phase = .rxCrcHi ∧ ∃ e, t.queue = s.queue ++ [e]) ∨
    (nextTurn s = some .host ∧ s.status.busy = false ∧ t.queue = s.queue.tail ∧
      ∃ v, s.env.host.head? = some (.wr 0x00 v) ∧ v % 256 = 0x0A)

/-- R35: the trace only grows, one event a step at most, but for reset. -/
def Obligations.DiagnosticTraceAppendOnly : Prop :=
  ∀ s t : State, step s = .next t → ¬HostResets s → t.diag = s.diag ∨ ∃ e, t.diag = s.diag ++ [e]

/-- R69, R64, R63, R220: a step does at most one transport transfer; received bytes are consumed in order, each once,
and what is sent is the byte of `txbuf` that the phase names. -/
def Obligations.OneTransferInOrderPerStep : Prop :=
  ∀ s t : State, step s = .next t →
    (t.env.rx = s.env.rx ∧ t.env.consumed = s.env.consumed ∧ t.env.tx = s.env.tx ∧ t.env.sent = s.env.sent) ∨
    (∃ b, s.env.rx = .byte b :: t.env.rx ∧ t.env.consumed = s.env.consumed ++ [b] ∧ t.env.tx = s.env.tx ∧
      t.env.sent = s.env.sent) ∨
    (s.env.rx = .fail :: t.env.rx ∧ t.env.consumed = s.env.consumed ∧ t.env.tx = s.env.tx ∧
      t.env.sent = s.env.sent) ∨
    (∃ i, s.phase = .tx i ∧ t.env.rx = s.env.rx ∧ t.env.consumed = s.env.consumed ∧
      ((s.env.tx = .ok :: t.env.tx ∧ t.env.sent = s.env.sent ++ [s.txbuf.getD i 0]) ∨
        ∃ reached, s.env.tx = .fail reached :: t.env.tx ∧
          t.env.sent = s.env.sent ++ (if reached then [s.txbuf.getD i 0] else [])))

/-- R41, R72: the core's step of an operation in flight does not depend on the operand registers. -/
def Obligations.OperandsLatchedAtIssue : Prop :=
  ∀ (s : State) (t n din : Byte) (p : Vector Byte 22), s.phase ≠ .idle →
    coreTurn (withOperands t n din p s) = onNext (withOperands t n din p) (coreTurn s)
end

