-- ==== Sys2Proof/Laws/State.lean ====
section
/-! SUPPORT. One lemma per field of `State` per named update, true by `rfl` and tagged simp, so that no later proof
unfolds a record update. -/

namespace Sys2Proof.Machine

/-! ### `finish` -/

@[simp] theorem State.finish_op (s : State) (r : ResultCode) : (s.finish r).op = s.op := rfl
@[simp] theorem State.finish_status (s : State) (r : ResultCode) : (s.finish r).status = { s.status with result := r, busy := false } := rfl
@[simp] theorem State.finish_cmdType (s : State) (r : ResultCode) : (s.finish r).cmdType = s.cmdType := rfl
@[simp] theorem State.finish_cmdLen (s : State) (r : ResultCode) : (s.finish r).cmdLen = s.cmdLen := rfl
@[simp] theorem State.finish_cmdPayload (s : State) (r : ResultCode) : (s.finish r).cmdPayload = s.cmdPayload := rfl
@[simp] theorem State.finish_crcDin (s : State) (r : ResultCode) : (s.finish r).crcDin = s.crcDin := rfl
@[simp] theorem State.finish_crcAcc (s : State) (r : ResultCode) : (s.finish r).crcAcc = s.crcAcc := rfl
@[simp] theorem State.finish_crcOut (s : State) (r : ResultCode) : (s.finish r).crcOut = s.crcOut := rfl
@[simp] theorem State.finish_rspType (s : State) (r : ResultCode) : (s.finish r).rspType = s.rspType := rfl
@[simp] theorem State.finish_rspLen (s : State) (r : ResultCode) : (s.finish r).rspLen = s.rspLen := rfl
@[simp] theorem State.finish_rspCrc (s : State) (r : ResultCode) : (s.finish r).rspCrc = s.rspCrc := rfl
@[simp] theorem State.finish_rspPayload (s : State) (r : ResultCode) : (s.finish r).rspPayload = s.rspPayload := rfl
@[simp] theorem State.finish_classOut (s : State) (r : ResultCode) : (s.finish r).classOut = s.classOut := rfl
@[simp] theorem State.finish_repType (s : State) (r : ResultCode) : (s.finish r).repType = s.repType := rfl
@[simp] theorem State.finish_repLen (s : State) (r : ResultCode) : (s.finish r).repLen = s.repLen := rfl
@[simp] theorem State.finish_repPayload (s : State) (r : ResultCode) : (s.finish r).repPayload = s.repPayload := rfl
@[simp] theorem State.finish_queue (s : State) (r : ResultCode) : (s.finish r).queue = s.queue := rfl
@[simp] theorem State.finish_diag (s : State) (r : ResultCode) : (s.finish r).diag = s.diag := rfl
@[simp] theorem State.finish_phase (s : State) (r : ResultCode) : (s.finish r).phase = .idle := rfl
@[simp] theorem State.finish_opk (s : State) (r : ResultCode) : (s.finish r).opk = s.opk := rfl
@[simp] theorem State.finish_txbuf (s : State) (r : ResultCode) : (s.finish r).txbuf = s.txbuf := rfl
@[simp] theorem State.finish_scode (s : State) (r : ResultCode) : (s.finish r).scode = s.scode := rfl
@[simp] theorem State.finish_rType (s : State) (r : ResultCode) : (s.finish r).rType = s.rType := rfl
@[simp] theorem State.finish_rLen (s : State) (r : ResultCode) : (s.finish r).rLen = s.rLen := rfl
@[simp] theorem State.finish_rBuf (s : State) (r : ResultCode) : (s.finish r).rBuf = s.rBuf := rfl
@[simp] theorem State.finish_rLo (s : State) (r : ResultCode) : (s.finish r).rLo = s.rLo := rfl
@[simp] theorem State.finish_rHi (s : State) (r : ResultCode) : (s.finish r).rHi = s.rHi := rfl
@[simp] theorem State.finish_env (s : State) (r : ResultCode) : (s.finish r).env = s.env := rfl

/-! ### `finishPoll` -/

@[simp] theorem State.finishPoll_op (s : State) (v : Bool) (r : ResultCode) : (s.finishPoll v r).op = s.op := rfl
@[simp] theorem State.finishPoll_status (s : State) (v : Bool) (r : ResultCode) : (s.finishPoll v r).status = { s.status with reportValid := v, result := r, busy := false } := rfl
@[simp] theorem State.finishPoll_cmdType (s : State) (v : Bool) (r : ResultCode) : (s.finishPoll v r).cmdType = s.cmdType := rfl
@[simp] theorem State.finishPoll_cmdLen (s : State) (v : Bool) (r : ResultCode) : (s.finishPoll v r).cmdLen = s.cmdLen := rfl
@[simp] theorem State.finishPoll_cmdPayload (s : State) (v : Bool) (r : ResultCode) : (s.finishPoll v r).cmdPayload = s.cmdPayload := rfl
@[simp] theorem State.finishPoll_crcDin (s : State) (v : Bool) (r : ResultCode) : (s.finishPoll v r).crcDin = s.crcDin := rfl
@[simp] theorem State.finishPoll_crcAcc (s : State) (v : Bool) (r : ResultCode) : (s.finishPoll v r).crcAcc = s.crcAcc := rfl
@[simp] theorem State.finishPoll_crcOut (s : State) (v : Bool) (r : ResultCode) : (s.finishPoll v r).crcOut = s.crcOut := rfl
@[simp] theorem State.finishPoll_rspType (s : State) (v : Bool) (r : ResultCode) : (s.finishPoll v r).rspType = s.rspType := rfl
@[simp] theorem State.finishPoll_rspLen (s : State) (v : Bool) (r : ResultCode) : (s.finishPoll v r).rspLen = s.rspLen := rfl
@[simp] theorem State.finishPoll_rspCrc (s : State) (v : Bool) (r : ResultCode) : (s.finishPoll v r).rspCrc = s.rspCrc := rfl
@[simp] theorem State.finishPoll_rspPayload (s : State) (v : Bool) (r : ResultCode) : (s.finishPoll v r).rspPayload = s.rspPayload := rfl
@[simp] theorem State.finishPoll_classOut (s : State) (v : Bool) (r : ResultCode) : (s.finishPoll v r).classOut = s.classOut := rfl
@[simp] theorem State.finishPoll_repType (s : State) (v : Bool) (r : ResultCode) : (s.finishPoll v r).repType = s.repType := rfl
@[simp] theorem State.finishPoll_repLen (s : State) (v : Bool) (r : ResultCode) : (s.finishPoll v r).repLen = s.repLen := rfl
@[simp] theorem State.finishPoll_repPayload (s : State) (v : Bool) (r : ResultCode) : (s.finishPoll v r).repPayload = s.repPayload := rfl
@[simp] theorem State.finishPoll_queue (s : State) (v : Bool) (r : ResultCode) : (s.finishPoll v r).queue = s.queue := rfl
@[simp] theorem State.finishPoll_diag (s : State) (v : Bool) (r : ResultCode) : (s.finishPoll v r).diag = s.diag := rfl
@[simp] theorem State.finishPoll_phase (s : State) (v : Bool) (r : ResultCode) : (s.finishPoll v r).phase = .idle := rfl
@[simp] theorem State.finishPoll_opk (s : State) (v : Bool) (r : ResultCode) : (s.finishPoll v r).opk = s.opk := rfl
@[simp] theorem State.finishPoll_txbuf (s : State) (v : Bool) (r : ResultCode) : (s.finishPoll v r).txbuf = s.txbuf := rfl
@[simp] theorem State.finishPoll_scode (s : State) (v : Bool) (r : ResultCode) : (s.finishPoll v r).scode = s.scode := rfl
@[simp] theorem State.finishPoll_rType (s : State) (v : Bool) (r : ResultCode) : (s.finishPoll v r).rType = s.rType := rfl
@[simp] theorem State.finishPoll_rLen (s : State) (v : Bool) (r : ResultCode) : (s.finishPoll v r).rLen = s.rLen := rfl
@[simp] theorem State.finishPoll_rBuf (s : State) (v : Bool) (r : ResultCode) : (s.finishPoll v r).rBuf = s.rBuf := rfl
@[simp] theorem State.finishPoll_rLo (s : State) (v : Bool) (r : ResultCode) : (s.finishPoll v r).rLo = s.rLo := rfl
@[simp] theorem State.finishPoll_rHi (s : State) (v : Bool) (r : ResultCode) : (s.finishPoll v r).rHi = s.rHi := rfl
@[simp] theorem State.finishPoll_env (s : State) (v : Bool) (r : ResultCode) : (s.finishPoll v r).env = s.env := rfl

/-! ### `setOverlap` -/

@[simp] theorem State.setOverlap_op (s : State) : (s.setOverlap).op = s.op := rfl
@[simp] theorem State.setOverlap_status (s : State) : (s.setOverlap).status = { s.status with overlap := true } := rfl
@[simp] theorem State.setOverlap_cmdType (s : State) : (s.setOverlap).cmdType = s.cmdType := rfl
@[simp] theorem State.setOverlap_cmdLen (s : State) : (s.setOverlap).cmdLen = s.cmdLen := rfl
@[simp] theorem State.setOverlap_cmdPayload (s : State) : (s.setOverlap).cmdPayload = s.cmdPayload := rfl
@[simp] theorem State.setOverlap_crcDin (s : State) : (s.setOverlap).crcDin = s.crcDin := rfl
@[simp] theorem State.setOverlap_crcAcc (s : State) : (s.setOverlap).crcAcc = s.crcAcc := rfl
@[simp] theorem State.setOverlap_crcOut (s : State) : (s.setOverlap).crcOut = s.crcOut := rfl
@[simp] theorem State.setOverlap_rspType (s : State) : (s.setOverlap).rspType = s.rspType := rfl
@[simp] theorem State.setOverlap_rspLen (s : State) : (s.setOverlap).rspLen = s.rspLen := rfl
@[simp] theorem State.setOverlap_rspCrc (s : State) : (s.setOverlap).rspCrc = s.rspCrc := rfl
@[simp] theorem State.setOverlap_rspPayload (s : State) : (s.setOverlap).rspPayload = s.rspPayload := rfl
@[simp] theorem State.setOverlap_classOut (s : State) : (s.setOverlap).classOut = s.classOut := rfl
@[simp] theorem State.setOverlap_repType (s : State) : (s.setOverlap).repType = s.repType := rfl
@[simp] theorem State.setOverlap_repLen (s : State) : (s.setOverlap).repLen = s.repLen := rfl
@[simp] theorem State.setOverlap_repPayload (s : State) : (s.setOverlap).repPayload = s.repPayload := rfl
@[simp] theorem State.setOverlap_queue (s : State) : (s.setOverlap).queue = s.queue := rfl
@[simp] theorem State.setOverlap_diag (s : State) : (s.setOverlap).diag = s.diag := rfl
@[simp] theorem State.setOverlap_phase (s : State) : (s.setOverlap).phase = s.phase := rfl
@[simp] theorem State.setOverlap_opk (s : State) : (s.setOverlap).opk = s.opk := rfl
@[simp] theorem State.setOverlap_txbuf (s : State) : (s.setOverlap).txbuf = s.txbuf := rfl
@[simp] theorem State.setOverlap_scode (s : State) : (s.setOverlap).scode = s.scode := rfl
@[simp] theorem State.setOverlap_rType (s : State) : (s.setOverlap).rType = s.rType := rfl
@[simp] theorem State.setOverlap_rLen (s : State) : (s.setOverlap).rLen = s.rLen := rfl
@[simp] theorem State.setOverlap_rBuf (s : State) : (s.setOverlap).rBuf = s.rBuf := rfl
@[simp] theorem State.setOverlap_rLo (s : State) : (s.setOverlap).rLo = s.rLo := rfl
@[simp] theorem State.setOverlap_rHi (s : State) : (s.setOverlap).rHi = s.rHi := rfl
@[simp] theorem State.setOverlap_env (s : State) : (s.setOverlap).env = s.env := rfl

/-! ### `setDead` -/

@[simp] theorem State.setDead_op (s : State) : (s.setDead).op = s.op := rfl
@[simp] theorem State.setDead_status (s : State) : (s.setDead).status = { s.status with dead := true } := rfl
@[simp] theorem State.setDead_cmdType (s : State) : (s.setDead).cmdType = s.cmdType := rfl
@[simp] theorem State.setDead_cmdLen (s : State) : (s.setDead).cmdLen = s.cmdLen := rfl
@[simp] theorem State.setDead_cmdPayload (s : State) : (s.setDead).cmdPayload = s.cmdPayload := rfl
@[simp] theorem State.setDead_crcDin (s : State) : (s.setDead).crcDin = s.crcDin := rfl
@[simp] theorem State.setDead_crcAcc (s : State) : (s.setDead).crcAcc = s.crcAcc := rfl
@[simp] theorem State.setDead_crcOut (s : State) : (s.setDead).crcOut = s.crcOut := rfl
@[simp] theorem State.setDead_rspType (s : State) : (s.setDead).rspType = s.rspType := rfl
@[simp] theorem State.setDead_rspLen (s : State) : (s.setDead).rspLen = s.rspLen := rfl
@[simp] theorem State.setDead_rspCrc (s : State) : (s.setDead).rspCrc = s.rspCrc := rfl
@[simp] theorem State.setDead_rspPayload (s : State) : (s.setDead).rspPayload = s.rspPayload := rfl
@[simp] theorem State.setDead_classOut (s : State) : (s.setDead).classOut = s.classOut := rfl
@[simp] theorem State.setDead_repType (s : State) : (s.setDead).repType = s.repType := rfl
@[simp] theorem State.setDead_repLen (s : State) : (s.setDead).repLen = s.repLen := rfl
@[simp] theorem State.setDead_repPayload (s : State) : (s.setDead).repPayload = s.repPayload := rfl
@[simp] theorem State.setDead_queue (s : State) : (s.setDead).queue = s.queue := rfl
@[simp] theorem State.setDead_diag (s : State) : (s.setDead).diag = s.diag := rfl
@[simp] theorem State.setDead_phase (s : State) : (s.setDead).phase = s.phase := rfl
@[simp] theorem State.setDead_opk (s : State) : (s.setDead).opk = s.opk := rfl
@[simp] theorem State.setDead_txbuf (s : State) : (s.setDead).txbuf = s.txbuf := rfl
@[simp] theorem State.setDead_scode (s : State) : (s.setDead).scode = s.scode := rfl
@[simp] theorem State.setDead_rType (s : State) : (s.setDead).rType = s.rType := rfl
@[simp] theorem State.setDead_rLen (s : State) : (s.setDead).rLen = s.rLen := rfl
@[simp] theorem State.setDead_rBuf (s : State) : (s.setDead).rBuf = s.rBuf := rfl
@[simp] theorem State.setDead_rLo (s : State) : (s.setDead).rLo = s.rLo := rfl
@[simp] theorem State.setDead_rHi (s : State) : (s.setDead).rHi = s.rHi := rfl
@[simp] theorem State.setDead_env (s : State) : (s.setDead).env = s.env := rfl

/-! ### `setQovf` -/

@[simp] theorem State.setQovf_op (s : State) : (s.setQovf).op = s.op := rfl
@[simp] theorem State.setQovf_status (s : State) : (s.setQovf).status = { s.status with qovf := true } := rfl
@[simp] theorem State.setQovf_cmdType (s : State) : (s.setQovf).cmdType = s.cmdType := rfl
@[simp] theorem State.setQovf_cmdLen (s : State) : (s.setQovf).cmdLen = s.cmdLen := rfl
@[simp] theorem State.setQovf_cmdPayload (s : State) : (s.setQovf).cmdPayload = s.cmdPayload := rfl
@[simp] theorem State.setQovf_crcDin (s : State) : (s.setQovf).crcDin = s.crcDin := rfl
@[simp] theorem State.setQovf_crcAcc (s : State) : (s.setQovf).crcAcc = s.crcAcc := rfl
@[simp] theorem State.setQovf_crcOut (s : State) : (s.setQovf).crcOut = s.crcOut := rfl
@[simp] theorem State.setQovf_rspType (s : State) : (s.setQovf).rspType = s.rspType := rfl
@[simp] theorem State.setQovf_rspLen (s : State) : (s.setQovf).rspLen = s.rspLen := rfl
@[simp] theorem State.setQovf_rspCrc (s : State) : (s.setQovf).rspCrc = s.rspCrc := rfl
@[simp] theorem State.setQovf_rspPayload (s : State) : (s.setQovf).rspPayload = s.rspPayload := rfl
@[simp] theorem State.setQovf_classOut (s : State) : (s.setQovf).classOut = s.classOut := rfl
@[simp] theorem State.setQovf_repType (s : State) : (s.setQovf).repType = s.repType := rfl
@[simp] theorem State.setQovf_repLen (s : State) : (s.setQovf).repLen = s.repLen := rfl
@[simp] theorem State.setQovf_repPayload (s : State) : (s.setQovf).repPayload = s.repPayload := rfl
@[simp] theorem State.setQovf_queue (s : State) : (s.setQovf).queue = s.queue := rfl
@[simp] theorem State.setQovf_diag (s : State) : (s.setQovf).diag = s.diag := rfl
@[simp] theorem State.setQovf_phase (s : State) : (s.setQovf).phase = s.phase := rfl
@[simp] theorem State.setQovf_opk (s : State) : (s.setQovf).opk = s.opk := rfl
@[simp] theorem State.setQovf_txbuf (s : State) : (s.setQovf).txbuf = s.txbuf := rfl
@[simp] theorem State.setQovf_scode (s : State) : (s.setQovf).scode = s.scode := rfl
@[simp] theorem State.setQovf_rType (s : State) : (s.setQovf).rType = s.rType := rfl
@[simp] theorem State.setQovf_rLen (s : State) : (s.setQovf).rLen = s.rLen := rfl
@[simp] theorem State.setQovf_rBuf (s : State) : (s.setQovf).rBuf = s.rBuf := rfl
@[simp] theorem State.setQovf_rLo (s : State) : (s.setQovf).rLo = s.rLo := rfl
@[simp] theorem State.setQovf_rHi (s : State) : (s.setQovf).rHi = s.rHi := rfl
@[simp] theorem State.setQovf_env (s : State) : (s.setQovf).env = s.env := rfl

/-! ### `begin` -/

@[simp] theorem State.begin_op (s : State) (k : OpKind) (ph : Phase) : (s.begin k ph).op = s.op := rfl
@[simp] theorem State.begin_status (s : State) (k : OpKind) (ph : Phase) : (s.begin k ph).status = { s.status with busy := true } := rfl
@[simp] theorem State.begin_cmdType (s : State) (k : OpKind) (ph : Phase) : (s.begin k ph).cmdType = s.cmdType := rfl
@[simp] theorem State.begin_cmdLen (s : State) (k : OpKind) (ph : Phase) : (s.begin k ph).cmdLen = s.cmdLen := rfl
@[simp] theorem State.begin_cmdPayload (s : State) (k : OpKind) (ph : Phase) : (s.begin k ph).cmdPayload = s.cmdPayload := rfl
@[simp] theorem State.begin_crcDin (s : State) (k : OpKind) (ph : Phase) : (s.begin k ph).crcDin = s.crcDin := rfl
@[simp] theorem State.begin_crcAcc (s : State) (k : OpKind) (ph : Phase) : (s.begin k ph).crcAcc = s.crcAcc := rfl
@[simp] theorem State.begin_crcOut (s : State) (k : OpKind) (ph : Phase) : (s.begin k ph).crcOut = s.crcOut := rfl
@[simp] theorem State.begin_rspType (s : State) (k : OpKind) (ph : Phase) : (s.begin k ph).rspType = s.rspType := rfl
@[simp] theorem State.begin_rspLen (s : State) (k : OpKind) (ph : Phase) : (s.begin k ph).rspLen = s.rspLen := rfl
@[simp] theorem State.begin_rspCrc (s : State) (k : OpKind) (ph : Phase) : (s.begin k ph).rspCrc = s.rspCrc := rfl
@[simp] theorem State.begin_rspPayload (s : State) (k : OpKind) (ph : Phase) : (s.begin k ph).rspPayload = s.rspPayload := rfl
@[simp] theorem State.begin_classOut (s : State) (k : OpKind) (ph : Phase) : (s.begin k ph).classOut = s.classOut := rfl
@[simp] theorem State.begin_repType (s : State) (k : OpKind) (ph : Phase) : (s.begin k ph).repType = s.repType := rfl
@[simp] theorem State.begin_repLen (s : State) (k : OpKind) (ph : Phase) : (s.begin k ph).repLen = s.repLen := rfl
@[simp] theorem State.begin_repPayload (s : State) (k : OpKind) (ph : Phase) : (s.begin k ph).repPayload = s.repPayload := rfl
@[simp] theorem State.begin_queue (s : State) (k : OpKind) (ph : Phase) : (s.begin k ph).queue = s.queue := rfl
@[simp] theorem State.begin_diag (s : State) (k : OpKind) (ph : Phase) : (s.begin k ph).diag = s.diag := rfl
@[simp] theorem State.begin_phase (s : State) (k : OpKind) (ph : Phase) : (s.begin k ph).phase = ph := rfl
@[simp] theorem State.begin_opk (s : State) (k : OpKind) (ph : Phase) : (s.begin k ph).opk = k := rfl
@[simp] theorem State.begin_txbuf (s : State) (k : OpKind) (ph : Phase) : (s.begin k ph).txbuf = s.txbuf := rfl
@[simp] theorem State.begin_scode (s : State) (k : OpKind) (ph : Phase) : (s.begin k ph).scode = s.scode := rfl
@[simp] theorem State.begin_rType (s : State) (k : OpKind) (ph : Phase) : (s.begin k ph).rType = s.rType := rfl
@[simp] theorem State.begin_rLen (s : State) (k : OpKind) (ph : Phase) : (s.begin k ph).rLen = s.rLen := rfl
@[simp] theorem State.begin_rBuf (s : State) (k : OpKind) (ph : Phase) : (s.begin k ph).rBuf = s.rBuf := rfl
@[simp] theorem State.begin_rLo (s : State) (k : OpKind) (ph : Phase) : (s.begin k ph).rLo = s.rLo := rfl
@[simp] theorem State.begin_rHi (s : State) (k : OpKind) (ph : Phase) : (s.begin k ph).rHi = s.rHi := rfl
@[simp] theorem State.begin_env (s : State) (k : OpKind) (ph : Phase) : (s.begin k ph).env = s.env := rfl

/-! ### `startWrite` -/

@[simp] theorem State.startWrite_op (s : State) (k : OpKind) (l : List Byte) : (s.startWrite k l).op = s.op := rfl
@[simp] theorem State.startWrite_status (s : State) (k : OpKind) (l : List Byte) : (s.startWrite k l).status = { s.status with busy := true } := rfl
@[simp] theorem State.startWrite_cmdType (s : State) (k : OpKind) (l : List Byte) : (s.startWrite k l).cmdType = s.cmdType := rfl
@[simp] theorem State.startWrite_cmdLen (s : State) (k : OpKind) (l : List Byte) : (s.startWrite k l).cmdLen = s.cmdLen := rfl
@[simp] theorem State.startWrite_cmdPayload (s : State) (k : OpKind) (l : List Byte) : (s.startWrite k l).cmdPayload = s.cmdPayload := rfl
@[simp] theorem State.startWrite_crcDin (s : State) (k : OpKind) (l : List Byte) : (s.startWrite k l).crcDin = s.crcDin := rfl
@[simp] theorem State.startWrite_crcAcc (s : State) (k : OpKind) (l : List Byte) : (s.startWrite k l).crcAcc = s.crcAcc := rfl
@[simp] theorem State.startWrite_crcOut (s : State) (k : OpKind) (l : List Byte) : (s.startWrite k l).crcOut = s.crcOut := rfl
@[simp] theorem State.startWrite_rspType (s : State) (k : OpKind) (l : List Byte) : (s.startWrite k l).rspType = s.rspType := rfl
@[simp] theorem State.startWrite_rspLen (s : State) (k : OpKind) (l : List Byte) : (s.startWrite k l).rspLen = s.rspLen := rfl
@[simp] theorem State.startWrite_rspCrc (s : State) (k : OpKind) (l : List Byte) : (s.startWrite k l).rspCrc = s.rspCrc := rfl
@[simp] theorem State.startWrite_rspPayload (s : State) (k : OpKind) (l : List Byte) : (s.startWrite k l).rspPayload = s.rspPayload := rfl
@[simp] theorem State.startWrite_classOut (s : State) (k : OpKind) (l : List Byte) : (s.startWrite k l).classOut = s.classOut := rfl
@[simp] theorem State.startWrite_repType (s : State) (k : OpKind) (l : List Byte) : (s.startWrite k l).repType = s.repType := rfl
@[simp] theorem State.startWrite_repLen (s : State) (k : OpKind) (l : List Byte) : (s.startWrite k l).repLen = s.repLen := rfl
@[simp] theorem State.startWrite_repPayload (s : State) (k : OpKind) (l : List Byte) : (s.startWrite k l).repPayload = s.repPayload := rfl
@[simp] theorem State.startWrite_queue (s : State) (k : OpKind) (l : List Byte) : (s.startWrite k l).queue = s.queue := rfl
@[simp] theorem State.startWrite_diag (s : State) (k : OpKind) (l : List Byte) : (s.startWrite k l).diag = s.diag := rfl
@[simp] theorem State.startWrite_phase (s : State) (k : OpKind) (l : List Byte) : (s.startWrite k l).phase = .tx 0 := rfl
@[simp] theorem State.startWrite_opk (s : State) (k : OpKind) (l : List Byte) : (s.startWrite k l).opk = k := rfl
@[simp] theorem State.startWrite_txbuf (s : State) (k : OpKind) (l : List Byte) : (s.startWrite k l).txbuf = l := rfl
@[simp] theorem State.startWrite_scode (s : State) (k : OpKind) (l : List Byte) : (s.startWrite k l).scode = s.scode := rfl
@[simp] theorem State.startWrite_rType (s : State) (k : OpKind) (l : List Byte) : (s.startWrite k l).rType = s.rType := rfl
@[simp] theorem State.startWrite_rLen (s : State) (k : OpKind) (l : List Byte) : (s.startWrite k l).rLen = s.rLen := rfl
@[simp] theorem State.startWrite_rBuf (s : State) (k : OpKind) (l : List Byte) : (s.startWrite k l).rBuf = s.rBuf := rfl
@[simp] theorem State.startWrite_rLo (s : State) (k : OpKind) (l : List Byte) : (s.startWrite k l).rLo = s.rLo := rfl
@[simp] theorem State.startWrite_rHi (s : State) (k : OpKind) (l : List Byte) : (s.startWrite k l).rHi = s.rHi := rfl
@[simp] theorem State.startWrite_env (s : State) (k : OpKind) (l : List Byte) : (s.startWrite k l).env = s.env := rfl

/-! ### `writeRsp` -/

@[simp] theorem State.writeRsp_op (s : State) (t : Byte) (p : List Byte) (c : Word) : (s.writeRsp t p c).op = s.op := rfl
@[simp] theorem State.writeRsp_status (s : State) (t : Byte) (p : List Byte) (c : Word) : (s.writeRsp t p c).status = s.status := rfl
@[simp] theorem State.writeRsp_cmdType (s : State) (t : Byte) (p : List Byte) (c : Word) : (s.writeRsp t p c).cmdType = s.cmdType := rfl
@[simp] theorem State.writeRsp_cmdLen (s : State) (t : Byte) (p : List Byte) (c : Word) : (s.writeRsp t p c).cmdLen = s.cmdLen := rfl
@[simp] theorem State.writeRsp_cmdPayload (s : State) (t : Byte) (p : List Byte) (c : Word) : (s.writeRsp t p c).cmdPayload = s.cmdPayload := rfl
@[simp] theorem State.writeRsp_crcDin (s : State) (t : Byte) (p : List Byte) (c : Word) : (s.writeRsp t p c).crcDin = s.crcDin := rfl
@[simp] theorem State.writeRsp_crcAcc (s : State) (t : Byte) (p : List Byte) (c : Word) : (s.writeRsp t p c).crcAcc = s.crcAcc := rfl
@[simp] theorem State.writeRsp_crcOut (s : State) (t : Byte) (p : List Byte) (c : Word) : (s.writeRsp t p c).crcOut = s.crcOut := rfl
@[simp] theorem State.writeRsp_rspType (s : State) (t : Byte) (p : List Byte) (c : Word) : (s.writeRsp t p c).rspType = t := rfl
@[simp] theorem State.writeRsp_rspLen (s : State) (t : Byte) (p : List Byte) (c : Word) : (s.writeRsp t p c).rspLen = lengthByte p := rfl
@[simp] theorem State.writeRsp_rspCrc (s : State) (t : Byte) (p : List Byte) (c : Word) : (s.writeRsp t p c).rspCrc = c := rfl
@[simp] theorem State.writeRsp_rspPayload (s : State) (t : Byte) (p : List Byte) (c : Word) : (s.writeRsp t p c).rspPayload = payloadRegs p := rfl
@[simp] theorem State.writeRsp_classOut (s : State) (t : Byte) (p : List Byte) (c : Word) : (s.writeRsp t p c).classOut = s.classOut := rfl
@[simp] theorem State.writeRsp_repType (s : State) (t : Byte) (p : List Byte) (c : Word) : (s.writeRsp t p c).repType = s.repType := rfl
@[simp] theorem State.writeRsp_repLen (s : State) (t : Byte) (p : List Byte) (c : Word) : (s.writeRsp t p c).repLen = s.repLen := rfl
@[simp] theorem State.writeRsp_repPayload (s : State) (t : Byte) (p : List Byte) (c : Word) : (s.writeRsp t p c).repPayload = s.repPayload := rfl
@[simp] theorem State.writeRsp_queue (s : State) (t : Byte) (p : List Byte) (c : Word) : (s.writeRsp t p c).queue = s.queue := rfl
@[simp] theorem State.writeRsp_diag (s : State) (t : Byte) (p : List Byte) (c : Word) : (s.writeRsp t p c).diag = s.diag := rfl
@[simp] theorem State.writeRsp_phase (s : State) (t : Byte) (p : List Byte) (c : Word) : (s.writeRsp t p c).phase = s.phase := rfl
@[simp] theorem State.writeRsp_opk (s : State) (t : Byte) (p : List Byte) (c : Word) : (s.writeRsp t p c).opk = s.opk := rfl
@[simp] theorem State.writeRsp_txbuf (s : State) (t : Byte) (p : List Byte) (c : Word) : (s.writeRsp t p c).txbuf = s.txbuf := rfl
@[simp] theorem State.writeRsp_scode (s : State) (t : Byte) (p : List Byte) (c : Word) : (s.writeRsp t p c).scode = s.scode := rfl
@[simp] theorem State.writeRsp_rType (s : State) (t : Byte) (p : List Byte) (c : Word) : (s.writeRsp t p c).rType = s.rType := rfl
@[simp] theorem State.writeRsp_rLen (s : State) (t : Byte) (p : List Byte) (c : Word) : (s.writeRsp t p c).rLen = s.rLen := rfl
@[simp] theorem State.writeRsp_rBuf (s : State) (t : Byte) (p : List Byte) (c : Word) : (s.writeRsp t p c).rBuf = s.rBuf := rfl
@[simp] theorem State.writeRsp_rLo (s : State) (t : Byte) (p : List Byte) (c : Word) : (s.writeRsp t p c).rLo = s.rLo := rfl
@[simp] theorem State.writeRsp_rHi (s : State) (t : Byte) (p : List Byte) (c : Word) : (s.writeRsp t p c).rHi = s.rHi := rfl
@[simp] theorem State.writeRsp_env (s : State) (t : Byte) (p : List Byte) (c : Word) : (s.writeRsp t p c).env = s.env := rfl

/-! ### `writeRep` -/

@[simp] theorem State.writeRep_op (s : State) (t : Byte) (p : List Byte) : (s.writeRep t p).op = s.op := rfl
@[simp] theorem State.writeRep_status (s : State) (t : Byte) (p : List Byte) : (s.writeRep t p).status = s.status := rfl
@[simp] theorem State.writeRep_cmdType (s : State) (t : Byte) (p : List Byte) : (s.writeRep t p).cmdType = s.cmdType := rfl
@[simp] theorem State.writeRep_cmdLen (s : State) (t : Byte) (p : List Byte) : (s.writeRep t p).cmdLen = s.cmdLen := rfl
@[simp] theorem State.writeRep_cmdPayload (s : State) (t : Byte) (p : List Byte) : (s.writeRep t p).cmdPayload = s.cmdPayload := rfl
@[simp] theorem State.writeRep_crcDin (s : State) (t : Byte) (p : List Byte) : (s.writeRep t p).crcDin = s.crcDin := rfl
@[simp] theorem State.writeRep_crcAcc (s : State) (t : Byte) (p : List Byte) : (s.writeRep t p).crcAcc = s.crcAcc := rfl
@[simp] theorem State.writeRep_crcOut (s : State) (t : Byte) (p : List Byte) : (s.writeRep t p).crcOut = s.crcOut := rfl
@[simp] theorem State.writeRep_rspType (s : State) (t : Byte) (p : List Byte) : (s.writeRep t p).rspType = s.rspType := rfl
@[simp] theorem State.writeRep_rspLen (s : State) (t : Byte) (p : List Byte) : (s.writeRep t p).rspLen = s.rspLen := rfl
@[simp] theorem State.writeRep_rspCrc (s : State) (t : Byte) (p : List Byte) : (s.writeRep t p).rspCrc = s.rspCrc := rfl
@[simp] theorem State.writeRep_rspPayload (s : State) (t : Byte) (p : List Byte) : (s.writeRep t p).rspPayload = s.rspPayload := rfl
@[simp] theorem State.writeRep_classOut (s : State) (t : Byte) (p : List Byte) : (s.writeRep t p).classOut = s.classOut := rfl
@[simp] theorem State.writeRep_repType (s : State) (t : Byte) (p : List Byte) : (s.writeRep t p).repType = t := rfl
@[simp] theorem State.writeRep_repLen (s : State) (t : Byte) (p : List Byte) : (s.writeRep t p).repLen = lengthByte p := rfl
@[simp] theorem State.writeRep_repPayload (s : State) (t : Byte) (p : List Byte) : (s.writeRep t p).repPayload = payloadRegs p := rfl
@[simp] theorem State.writeRep_queue (s : State) (t : Byte) (p : List Byte) : (s.writeRep t p).queue = s.queue := rfl
@[simp] theorem State.writeRep_diag (s : State) (t : Byte) (p : List Byte) : (s.writeRep t p).diag = s.diag := rfl
@[simp] theorem State.writeRep_phase (s : State) (t : Byte) (p : List Byte) : (s.writeRep t p).phase = s.phase := rfl
@[simp] theorem State.writeRep_opk (s : State) (t : Byte) (p : List Byte) : (s.writeRep t p).opk = s.opk := rfl
@[simp] theorem State.writeRep_txbuf (s : State) (t : Byte) (p : List Byte) : (s.writeRep t p).txbuf = s.txbuf := rfl
@[simp] theorem State.writeRep_scode (s : State) (t : Byte) (p : List Byte) : (s.writeRep t p).scode = s.scode := rfl
@[simp] theorem State.writeRep_rType (s : State) (t : Byte) (p : List Byte) : (s.writeRep t p).rType = s.rType := rfl
@[simp] theorem State.writeRep_rLen (s : State) (t : Byte) (p : List Byte) : (s.writeRep t p).rLen = s.rLen := rfl
@[simp] theorem State.writeRep_rBuf (s : State) (t : Byte) (p : List Byte) : (s.writeRep t p).rBuf = s.rBuf := rfl
@[simp] theorem State.writeRep_rLo (s : State) (t : Byte) (p : List Byte) : (s.writeRep t p).rLo = s.rLo := rfl
@[simp] theorem State.writeRep_rHi (s : State) (t : Byte) (p : List Byte) : (s.writeRep t p).rHi = s.rHi := rfl
@[simp] theorem State.writeRep_env (s : State) (t : Byte) (p : List Byte) : (s.writeRep t p).env = s.env := rfl

/-! ### `log` -/

@[simp] theorem State.log_op (s : State) (e : DiagEvent) : (s.log e).op = s.op := rfl
@[simp] theorem State.log_status (s : State) (e : DiagEvent) : (s.log e).status = s.status := rfl
@[simp] theorem State.log_cmdType (s : State) (e : DiagEvent) : (s.log e).cmdType = s.cmdType := rfl
@[simp] theorem State.log_cmdLen (s : State) (e : DiagEvent) : (s.log e).cmdLen = s.cmdLen := rfl
@[simp] theorem State.log_cmdPayload (s : State) (e : DiagEvent) : (s.log e).cmdPayload = s.cmdPayload := rfl
@[simp] theorem State.log_crcDin (s : State) (e : DiagEvent) : (s.log e).crcDin = s.crcDin := rfl
@[simp] theorem State.log_crcAcc (s : State) (e : DiagEvent) : (s.log e).crcAcc = s.crcAcc := rfl
@[simp] theorem State.log_crcOut (s : State) (e : DiagEvent) : (s.log e).crcOut = s.crcOut := rfl
@[simp] theorem State.log_rspType (s : State) (e : DiagEvent) : (s.log e).rspType = s.rspType := rfl
@[simp] theorem State.log_rspLen (s : State) (e : DiagEvent) : (s.log e).rspLen = s.rspLen := rfl
@[simp] theorem State.log_rspCrc (s : State) (e : DiagEvent) : (s.log e).rspCrc = s.rspCrc := rfl
@[simp] theorem State.log_rspPayload (s : State) (e : DiagEvent) : (s.log e).rspPayload = s.rspPayload := rfl
@[simp] theorem State.log_classOut (s : State) (e : DiagEvent) : (s.log e).classOut = s.classOut := rfl
@[simp] theorem State.log_repType (s : State) (e : DiagEvent) : (s.log e).repType = s.repType := rfl
@[simp] theorem State.log_repLen (s : State) (e : DiagEvent) : (s.log e).repLen = s.repLen := rfl
@[simp] theorem State.log_repPayload (s : State) (e : DiagEvent) : (s.log e).repPayload = s.repPayload := rfl
@[simp] theorem State.log_queue (s : State) (e : DiagEvent) : (s.log e).queue = s.queue := rfl
@[simp] theorem State.log_diag (s : State) (e : DiagEvent) : (s.log e).diag = s.diag ++ [e] := rfl
@[simp] theorem State.log_phase (s : State) (e : DiagEvent) : (s.log e).phase = s.phase := rfl
@[simp] theorem State.log_opk (s : State) (e : DiagEvent) : (s.log e).opk = s.opk := rfl
@[simp] theorem State.log_txbuf (s : State) (e : DiagEvent) : (s.log e).txbuf = s.txbuf := rfl
@[simp] theorem State.log_scode (s : State) (e : DiagEvent) : (s.log e).scode = s.scode := rfl
@[simp] theorem State.log_rType (s : State) (e : DiagEvent) : (s.log e).rType = s.rType := rfl
@[simp] theorem State.log_rLen (s : State) (e : DiagEvent) : (s.log e).rLen = s.rLen := rfl
@[simp] theorem State.log_rBuf (s : State) (e : DiagEvent) : (s.log e).rBuf = s.rBuf := rfl
@[simp] theorem State.log_rLo (s : State) (e : DiagEvent) : (s.log e).rLo = s.rLo := rfl
@[simp] theorem State.log_rHi (s : State) (e : DiagEvent) : (s.log e).rHi = s.rHi := rfl
@[simp] theorem State.log_env (s : State) (e : DiagEvent) : (s.log e).env = s.env := rfl

/-! ### `popTx` -/

@[simp] theorem State.popTx_op (s : State) : (s.popTx).op = s.op := rfl
@[simp] theorem State.popTx_status (s : State) : (s.popTx).status = s.status := rfl
@[simp] theorem State.popTx_cmdType (s : State) : (s.popTx).cmdType = s.cmdType := rfl
@[simp] theorem State.popTx_cmdLen (s : State) : (s.popTx).cmdLen = s.cmdLen := rfl
@[simp] theorem State.popTx_cmdPayload (s : State) : (s.popTx).cmdPayload = s.cmdPayload := rfl
@[simp] theorem State.popTx_crcDin (s : State) : (s.popTx).crcDin = s.crcDin := rfl
@[simp] theorem State.popTx_crcAcc (s : State) : (s.popTx).crcAcc = s.crcAcc := rfl
@[simp] theorem State.popTx_crcOut (s : State) : (s.popTx).crcOut = s.crcOut := rfl
@[simp] theorem State.popTx_rspType (s : State) : (s.popTx).rspType = s.rspType := rfl
@[simp] theorem State.popTx_rspLen (s : State) : (s.popTx).rspLen = s.rspLen := rfl
@[simp] theorem State.popTx_rspCrc (s : State) : (s.popTx).rspCrc = s.rspCrc := rfl
@[simp] theorem State.popTx_rspPayload (s : State) : (s.popTx).rspPayload = s.rspPayload := rfl
@[simp] theorem State.popTx_classOut (s : State) : (s.popTx).classOut = s.classOut := rfl
@[simp] theorem State.popTx_repType (s : State) : (s.popTx).repType = s.repType := rfl
@[simp] theorem State.popTx_repLen (s : State) : (s.popTx).repLen = s.repLen := rfl
@[simp] theorem State.popTx_repPayload (s : State) : (s.popTx).repPayload = s.repPayload := rfl
@[simp] theorem State.popTx_queue (s : State) : (s.popTx).queue = s.queue := rfl
@[simp] theorem State.popTx_diag (s : State) : (s.popTx).diag = s.diag := rfl
@[simp] theorem State.popTx_phase (s : State) : (s.popTx).phase = s.phase := rfl
@[simp] theorem State.popTx_opk (s : State) : (s.popTx).opk = s.opk := rfl
@[simp] theorem State.popTx_txbuf (s : State) : (s.popTx).txbuf = s.txbuf := rfl
@[simp] theorem State.popTx_scode (s : State) : (s.popTx).scode = s.scode := rfl
@[simp] theorem State.popTx_rType (s : State) : (s.popTx).rType = s.rType := rfl
@[simp] theorem State.popTx_rLen (s : State) : (s.popTx).rLen = s.rLen := rfl
@[simp] theorem State.popTx_rBuf (s : State) : (s.popTx).rBuf = s.rBuf := rfl
@[simp] theorem State.popTx_rLo (s : State) : (s.popTx).rLo = s.rLo := rfl
@[simp] theorem State.popTx_rHi (s : State) : (s.popTx).rHi = s.rHi := rfl
@[simp] theorem State.popTx_env (s : State) : (s.popTx).env = { s.env with tx := s.env.tx.tail } := rfl

/-! ### `putWire` -/

@[simp] theorem State.putWire_op (s : State) (b : Byte) : (s.putWire b).op = s.op := rfl
@[simp] theorem State.putWire_status (s : State) (b : Byte) : (s.putWire b).status = s.status := rfl
@[simp] theorem State.putWire_cmdType (s : State) (b : Byte) : (s.putWire b).cmdType = s.cmdType := rfl
@[simp] theorem State.putWire_cmdLen (s : State) (b : Byte) : (s.putWire b).cmdLen = s.cmdLen := rfl
@[simp] theorem State.putWire_cmdPayload (s : State) (b : Byte) : (s.putWire b).cmdPayload = s.cmdPayload := rfl
@[simp] theorem State.putWire_crcDin (s : State) (b : Byte) : (s.putWire b).crcDin = s.crcDin := rfl
@[simp] theorem State.putWire_crcAcc (s : State) (b : Byte) : (s.putWire b).crcAcc = s.crcAcc := rfl
@[simp] theorem State.putWire_crcOut (s : State) (b : Byte) : (s.putWire b).crcOut = s.crcOut := rfl
@[simp] theorem State.putWire_rspType (s : State) (b : Byte) : (s.putWire b).rspType = s.rspType := rfl
@[simp] theorem State.putWire_rspLen (s : State) (b : Byte) : (s.putWire b).rspLen = s.rspLen := rfl
@[simp] theorem State.putWire_rspCrc (s : State) (b : Byte) : (s.putWire b).rspCrc = s.rspCrc := rfl
@[simp] theorem State.putWire_rspPayload (s : State) (b : Byte) : (s.putWire b).rspPayload = s.rspPayload := rfl
@[simp] theorem State.putWire_classOut (s : State) (b : Byte) : (s.putWire b).classOut = s.classOut := rfl
@[simp] theorem State.putWire_repType (s : State) (b : Byte) : (s.putWire b).repType = s.repType := rfl
@[simp] theorem State.putWire_repLen (s : State) (b : Byte) : (s.putWire b).repLen = s.repLen := rfl
@[simp] theorem State.putWire_repPayload (s : State) (b : Byte) : (s.putWire b).repPayload = s.repPayload := rfl
@[simp] theorem State.putWire_queue (s : State) (b : Byte) : (s.putWire b).queue = s.queue := rfl
@[simp] theorem State.putWire_diag (s : State) (b : Byte) : (s.putWire b).diag = s.diag := rfl
@[simp] theorem State.putWire_phase (s : State) (b : Byte) : (s.putWire b).phase = s.phase := rfl
@[simp] theorem State.putWire_opk (s : State) (b : Byte) : (s.putWire b).opk = s.opk := rfl
@[simp] theorem State.putWire_txbuf (s : State) (b : Byte) : (s.putWire b).txbuf = s.txbuf := rfl
@[simp] theorem State.putWire_scode (s : State) (b : Byte) : (s.putWire b).scode = s.scode := rfl
@[simp] theorem State.putWire_rType (s : State) (b : Byte) : (s.putWire b).rType = s.rType := rfl
@[simp] theorem State.putWire_rLen (s : State) (b : Byte) : (s.putWire b).rLen = s.rLen := rfl
@[simp] theorem State.putWire_rBuf (s : State) (b : Byte) : (s.putWire b).rBuf = s.rBuf := rfl
@[simp] theorem State.putWire_rLo (s : State) (b : Byte) : (s.putWire b).rLo = s.rLo := rfl
@[simp] theorem State.putWire_rHi (s : State) (b : Byte) : (s.putWire b).rHi = s.rHi := rfl
@[simp] theorem State.putWire_env (s : State) (b : Byte) : (s.putWire b).env = { s.env with sent := s.env.sent ++ [b] } := rfl

/-! ### `popRx` -/

@[simp] theorem State.popRx_op (s : State) : (s.popRx).op = s.op := rfl
@[simp] theorem State.popRx_status (s : State) : (s.popRx).status = s.status := rfl
@[simp] theorem State.popRx_cmdType (s : State) : (s.popRx).cmdType = s.cmdType := rfl
@[simp] theorem State.popRx_cmdLen (s : State) : (s.popRx).cmdLen = s.cmdLen := rfl
@[simp] theorem State.popRx_cmdPayload (s : State) : (s.popRx).cmdPayload = s.cmdPayload := rfl
@[simp] theorem State.popRx_crcDin (s : State) : (s.popRx).crcDin = s.crcDin := rfl
@[simp] theorem State.popRx_crcAcc (s : State) : (s.popRx).crcAcc = s.crcAcc := rfl
@[simp] theorem State.popRx_crcOut (s : State) : (s.popRx).crcOut = s.crcOut := rfl
@[simp] theorem State.popRx_rspType (s : State) : (s.popRx).rspType = s.rspType := rfl
@[simp] theorem State.popRx_rspLen (s : State) : (s.popRx).rspLen = s.rspLen := rfl
@[simp] theorem State.popRx_rspCrc (s : State) : (s.popRx).rspCrc = s.rspCrc := rfl
@[simp] theorem State.popRx_rspPayload (s : State) : (s.popRx).rspPayload = s.rspPayload := rfl
@[simp] theorem State.popRx_classOut (s : State) : (s.popRx).classOut = s.classOut := rfl
@[simp] theorem State.popRx_repType (s : State) : (s.popRx).repType = s.repType := rfl
@[simp] theorem State.popRx_repLen (s : State) : (s.popRx).repLen = s.repLen := rfl
@[simp] theorem State.popRx_repPayload (s : State) : (s.popRx).repPayload = s.repPayload := rfl
@[simp] theorem State.popRx_queue (s : State) : (s.popRx).queue = s.queue := rfl
@[simp] theorem State.popRx_diag (s : State) : (s.popRx).diag = s.diag := rfl
@[simp] theorem State.popRx_phase (s : State) : (s.popRx).phase = s.phase := rfl
@[simp] theorem State.popRx_opk (s : State) : (s.popRx).opk = s.opk := rfl
@[simp] theorem State.popRx_txbuf (s : State) : (s.popRx).txbuf = s.txbuf := rfl
@[simp] theorem State.popRx_scode (s : State) : (s.popRx).scode = s.scode := rfl
@[simp] theorem State.popRx_rType (s : State) : (s.popRx).rType = s.rType := rfl
@[simp] theorem State.popRx_rLen (s : State) : (s.popRx).rLen = s.rLen := rfl
@[simp] theorem State.popRx_rBuf (s : State) : (s.popRx).rBuf = s.rBuf := rfl
@[simp] theorem State.popRx_rLo (s : State) : (s.popRx).rLo = s.rLo := rfl
@[simp] theorem State.popRx_rHi (s : State) : (s.popRx).rHi = s.rHi := rfl
@[simp] theorem State.popRx_env (s : State) : (s.popRx).env = { s.env with rx := s.env.rx.tail } := rfl

/-! ### `takeByte` -/

@[simp] theorem State.takeByte_op (s : State) (b : Byte) : (s.takeByte b).op = s.op := rfl
@[simp] theorem State.takeByte_status (s : State) (b : Byte) : (s.takeByte b).status = s.status := rfl
@[simp] theorem State.takeByte_cmdType (s : State) (b : Byte) : (s.takeByte b).cmdType = s.cmdType := rfl
@[simp] theorem State.takeByte_cmdLen (s : State) (b : Byte) : (s.takeByte b).cmdLen = s.cmdLen := rfl
@[simp] theorem State.takeByte_cmdPayload (s : State) (b : Byte) : (s.takeByte b).cmdPayload = s.cmdPayload := rfl
@[simp] theorem State.takeByte_crcDin (s : State) (b : Byte) : (s.takeByte b).crcDin = s.crcDin := rfl
@[simp] theorem State.takeByte_crcAcc (s : State) (b : Byte) : (s.takeByte b).crcAcc = s.crcAcc := rfl
@[simp] theorem State.takeByte_crcOut (s : State) (b : Byte) : (s.takeByte b).crcOut = s.crcOut := rfl
@[simp] theorem State.takeByte_rspType (s : State) (b : Byte) : (s.takeByte b).rspType = s.rspType := rfl
@[simp] theorem State.takeByte_rspLen (s : State) (b : Byte) : (s.takeByte b).rspLen = s.rspLen := rfl
@[simp] theorem State.takeByte_rspCrc (s : State) (b : Byte) : (s.takeByte b).rspCrc = s.rspCrc := rfl
@[simp] theorem State.takeByte_rspPayload (s : State) (b : Byte) : (s.takeByte b).rspPayload = s.rspPayload := rfl
@[simp] theorem State.takeByte_classOut (s : State) (b : Byte) : (s.takeByte b).classOut = s.classOut := rfl
@[simp] theorem State.takeByte_repType (s : State) (b : Byte) : (s.takeByte b).repType = s.repType := rfl
@[simp] theorem State.takeByte_repLen (s : State) (b : Byte) : (s.takeByte b).repLen = s.repLen := rfl
@[simp] theorem State.takeByte_repPayload (s : State) (b : Byte) : (s.takeByte b).repPayload = s.repPayload := rfl
@[simp] theorem State.takeByte_queue (s : State) (b : Byte) : (s.takeByte b).queue = s.queue := rfl
@[simp] theorem State.takeByte_diag (s : State) (b : Byte) : (s.takeByte b).diag = s.diag := rfl
@[simp] theorem State.takeByte_phase (s : State) (b : Byte) : (s.takeByte b).phase = s.phase := rfl
@[simp] theorem State.takeByte_opk (s : State) (b : Byte) : (s.takeByte b).opk = s.opk := rfl
@[simp] theorem State.takeByte_txbuf (s : State) (b : Byte) : (s.takeByte b).txbuf = s.txbuf := rfl
@[simp] theorem State.takeByte_scode (s : State) (b : Byte) : (s.takeByte b).scode = s.scode := rfl
@[simp] theorem State.takeByte_rType (s : State) (b : Byte) : (s.takeByte b).rType = s.rType := rfl
@[simp] theorem State.takeByte_rLen (s : State) (b : Byte) : (s.takeByte b).rLen = s.rLen := rfl
@[simp] theorem State.takeByte_rBuf (s : State) (b : Byte) : (s.takeByte b).rBuf = s.rBuf := rfl
@[simp] theorem State.takeByte_rLo (s : State) (b : Byte) : (s.takeByte b).rLo = s.rLo := rfl
@[simp] theorem State.takeByte_rHi (s : State) (b : Byte) : (s.takeByte b).rHi = s.rHi := rfl
@[simp] theorem State.takeByte_env (s : State) (b : Byte) : (s.takeByte b).env = { s.env with rx := s.env.rx.tail, consumed := s.env.consumed ++ [b] } := rfl

/-! ### `popHost` -/

@[simp] theorem State.popHost_op (s : State) : (s.popHost).op = s.op := rfl
@[simp] theorem State.popHost_status (s : State) : (s.popHost).status = s.status := rfl
@[simp] theorem State.popHost_cmdType (s : State) : (s.popHost).cmdType = s.cmdType := rfl
@[simp] theorem State.popHost_cmdLen (s : State) : (s.popHost).cmdLen = s.cmdLen := rfl
@[simp] theorem State.popHost_cmdPayload (s : State) : (s.popHost).cmdPayload = s.cmdPayload := rfl
@[simp] theorem State.popHost_crcDin (s : State) : (s.popHost).crcDin = s.crcDin := rfl
@[simp] theorem State.popHost_crcAcc (s : State) : (s.popHost).crcAcc = s.crcAcc := rfl
@[simp] theorem State.popHost_crcOut (s : State) : (s.popHost).crcOut = s.crcOut := rfl
@[simp] theorem State.popHost_rspType (s : State) : (s.popHost).rspType = s.rspType := rfl
@[simp] theorem State.popHost_rspLen (s : State) : (s.popHost).rspLen = s.rspLen := rfl
@[simp] theorem State.popHost_rspCrc (s : State) : (s.popHost).rspCrc = s.rspCrc := rfl
@[simp] theorem State.popHost_rspPayload (s : State) : (s.popHost).rspPayload = s.rspPayload := rfl
@[simp] theorem State.popHost_classOut (s : State) : (s.popHost).classOut = s.classOut := rfl
@[simp] theorem State.popHost_repType (s : State) : (s.popHost).repType = s.repType := rfl
@[simp] theorem State.popHost_repLen (s : State) : (s.popHost).repLen = s.repLen := rfl
@[simp] theorem State.popHost_repPayload (s : State) : (s.popHost).repPayload = s.repPayload := rfl
@[simp] theorem State.popHost_queue (s : State) : (s.popHost).queue = s.queue := rfl
@[simp] theorem State.popHost_diag (s : State) : (s.popHost).diag = s.diag := rfl
@[simp] theorem State.popHost_phase (s : State) : (s.popHost).phase = s.phase := rfl
@[simp] theorem State.popHost_opk (s : State) : (s.popHost).opk = s.opk := rfl
@[simp] theorem State.popHost_txbuf (s : State) : (s.popHost).txbuf = s.txbuf := rfl
@[simp] theorem State.popHost_scode (s : State) : (s.popHost).scode = s.scode := rfl
@[simp] theorem State.popHost_rType (s : State) : (s.popHost).rType = s.rType := rfl
@[simp] theorem State.popHost_rLen (s : State) : (s.popHost).rLen = s.rLen := rfl
@[simp] theorem State.popHost_rBuf (s : State) : (s.popHost).rBuf = s.rBuf := rfl
@[simp] theorem State.popHost_rLo (s : State) : (s.popHost).rLo = s.rLo := rfl
@[simp] theorem State.popHost_rHi (s : State) : (s.popHost).rHi = s.rHi := rfl
@[simp] theorem State.popHost_env (s : State) : (s.popHost).env = { s.env with host := s.env.host.tail } := rfl

/-! ### `popTurn` -/

@[simp] theorem State.popTurn_op (s : State) : (s.popTurn).op = s.op := rfl
@[simp] theorem State.popTurn_status (s : State) : (s.popTurn).status = s.status := rfl
@[simp] theorem State.popTurn_cmdType (s : State) : (s.popTurn).cmdType = s.cmdType := rfl
@[simp] theorem State.popTurn_cmdLen (s : State) : (s.popTurn).cmdLen = s.cmdLen := rfl
@[simp] theorem State.popTurn_cmdPayload (s : State) : (s.popTurn).cmdPayload = s.cmdPayload := rfl
@[simp] theorem State.popTurn_crcDin (s : State) : (s.popTurn).crcDin = s.crcDin := rfl
@[simp] theorem State.popTurn_crcAcc (s : State) : (s.popTurn).crcAcc = s.crcAcc := rfl
@[simp] theorem State.popTurn_crcOut (s : State) : (s.popTurn).crcOut = s.crcOut := rfl
@[simp] theorem State.popTurn_rspType (s : State) : (s.popTurn).rspType = s.rspType := rfl
@[simp] theorem State.popTurn_rspLen (s : State) : (s.popTurn).rspLen = s.rspLen := rfl
@[simp] theorem State.popTurn_rspCrc (s : State) : (s.popTurn).rspCrc = s.rspCrc := rfl
@[simp] theorem State.popTurn_rspPayload (s : State) : (s.popTurn).rspPayload = s.rspPayload := rfl
@[simp] theorem State.popTurn_classOut (s : State) : (s.popTurn).classOut = s.classOut := rfl
@[simp] theorem State.popTurn_repType (s : State) : (s.popTurn).repType = s.repType := rfl
@[simp] theorem State.popTurn_repLen (s : State) : (s.popTurn).repLen = s.repLen := rfl
@[simp] theorem State.popTurn_repPayload (s : State) : (s.popTurn).repPayload = s.repPayload := rfl
@[simp] theorem State.popTurn_queue (s : State) : (s.popTurn).queue = s.queue := rfl
@[simp] theorem State.popTurn_diag (s : State) : (s.popTurn).diag = s.diag := rfl
@[simp] theorem State.popTurn_phase (s : State) : (s.popTurn).phase = s.phase := rfl
@[simp] theorem State.popTurn_opk (s : State) : (s.popTurn).opk = s.opk := rfl
@[simp] theorem State.popTurn_txbuf (s : State) : (s.popTurn).txbuf = s.txbuf := rfl
@[simp] theorem State.popTurn_scode (s : State) : (s.popTurn).scode = s.scode := rfl
@[simp] theorem State.popTurn_rType (s : State) : (s.popTurn).rType = s.rType := rfl
@[simp] theorem State.popTurn_rLen (s : State) : (s.popTurn).rLen = s.rLen := rfl
@[simp] theorem State.popTurn_rBuf (s : State) : (s.popTurn).rBuf = s.rBuf := rfl
@[simp] theorem State.popTurn_rLo (s : State) : (s.popTurn).rLo = s.rLo := rfl
@[simp] theorem State.popTurn_rHi (s : State) : (s.popTurn).rHi = s.rHi := rfl
@[simp] theorem State.popTurn_env (s : State) : (s.popTurn).env = { s.env with sched := s.env.sched.tail } := rfl

/-! ### `noteRead` -/

@[simp] theorem State.noteRead_op (s : State) (x : Byte) (v : Word) : (s.noteRead x v).op = s.op := rfl
@[simp] theorem State.noteRead_status (s : State) (x : Byte) (v : Word) : (s.noteRead x v).status = s.status := rfl
@[simp] theorem State.noteRead_cmdType (s : State) (x : Byte) (v : Word) : (s.noteRead x v).cmdType = s.cmdType := rfl
@[simp] theorem State.noteRead_cmdLen (s : State) (x : Byte) (v : Word) : (s.noteRead x v).cmdLen = s.cmdLen := rfl
@[simp] theorem State.noteRead_cmdPayload (s : State) (x : Byte) (v : Word) : (s.noteRead x v).cmdPayload = s.cmdPayload := rfl
@[simp] theorem State.noteRead_crcDin (s : State) (x : Byte) (v : Word) : (s.noteRead x v).crcDin = s.crcDin := rfl
@[simp] theorem State.noteRead_crcAcc (s : State) (x : Byte) (v : Word) : (s.noteRead x v).crcAcc = s.crcAcc := rfl
@[simp] theorem State.noteRead_crcOut (s : State) (x : Byte) (v : Word) : (s.noteRead x v).crcOut = s.crcOut := rfl
@[simp] theorem State.noteRead_rspType (s : State) (x : Byte) (v : Word) : (s.noteRead x v).rspType = s.rspType := rfl
@[simp] theorem State.noteRead_rspLen (s : State) (x : Byte) (v : Word) : (s.noteRead x v).rspLen = s.rspLen := rfl
@[simp] theorem State.noteRead_rspCrc (s : State) (x : Byte) (v : Word) : (s.noteRead x v).rspCrc = s.rspCrc := rfl
@[simp] theorem State.noteRead_rspPayload (s : State) (x : Byte) (v : Word) : (s.noteRead x v).rspPayload = s.rspPayload := rfl
@[simp] theorem State.noteRead_classOut (s : State) (x : Byte) (v : Word) : (s.noteRead x v).classOut = s.classOut := rfl
@[simp] theorem State.noteRead_repType (s : State) (x : Byte) (v : Word) : (s.noteRead x v).repType = s.repType := rfl
@[simp] theorem State.noteRead_repLen (s : State) (x : Byte) (v : Word) : (s.noteRead x v).repLen = s.repLen := rfl
@[simp] theorem State.noteRead_repPayload (s : State) (x : Byte) (v : Word) : (s.noteRead x v).repPayload = s.repPayload := rfl
@[simp] theorem State.noteRead_queue (s : State) (x : Byte) (v : Word) : (s.noteRead x v).queue = s.queue := rfl
@[simp] theorem State.noteRead_diag (s : State) (x : Byte) (v : Word) : (s.noteRead x v).diag = s.diag := rfl
@[simp] theorem State.noteRead_phase (s : State) (x : Byte) (v : Word) : (s.noteRead x v).phase = s.phase := rfl
@[simp] theorem State.noteRead_opk (s : State) (x : Byte) (v : Word) : (s.noteRead x v).opk = s.opk := rfl
@[simp] theorem State.noteRead_txbuf (s : State) (x : Byte) (v : Word) : (s.noteRead x v).txbuf = s.txbuf := rfl
@[simp] theorem State.noteRead_scode (s : State) (x : Byte) (v : Word) : (s.noteRead x v).scode = s.scode := rfl
@[simp] theorem State.noteRead_rType (s : State) (x : Byte) (v : Word) : (s.noteRead x v).rType = s.rType := rfl
@[simp] theorem State.noteRead_rLen (s : State) (x : Byte) (v : Word) : (s.noteRead x v).rLen = s.rLen := rfl
@[simp] theorem State.noteRead_rBuf (s : State) (x : Byte) (v : Word) : (s.noteRead x v).rBuf = s.rBuf := rfl
@[simp] theorem State.noteRead_rLo (s : State) (x : Byte) (v : Word) : (s.noteRead x v).rLo = s.rLo := rfl
@[simp] theorem State.noteRead_rHi (s : State) (x : Byte) (v : Word) : (s.noteRead x v).rHi = s.rHi := rfl
@[simp] theorem State.noteRead_env (s : State) (x : Byte) (v : Word) : (s.noteRead x v).env = { s.env with reads := s.env.reads ++ [(x, v)] } := rfl

/-! ### `fetchOp` -/

@[simp] theorem State.fetchOp_op (s : State) (v : Nat) : (s.fetchOp v).op = BitVec.ofNat 8 v := rfl
@[simp] theorem State.fetchOp_status (s : State) (v : Nat) : (s.fetchOp v).status = s.status := rfl
@[simp] theorem State.fetchOp_cmdType (s : State) (v : Nat) : (s.fetchOp v).cmdType = s.cmdType := rfl
@[simp] theorem State.fetchOp_cmdLen (s : State) (v : Nat) : (s.fetchOp v).cmdLen = s.cmdLen := rfl
@[simp] theorem State.fetchOp_cmdPayload (s : State) (v : Nat) : (s.fetchOp v).cmdPayload = s.cmdPayload := rfl
@[simp] theorem State.fetchOp_crcDin (s : State) (v : Nat) : (s.fetchOp v).crcDin = s.crcDin := rfl
@[simp] theorem State.fetchOp_crcAcc (s : State) (v : Nat) : (s.fetchOp v).crcAcc = s.crcAcc := rfl
@[simp] theorem State.fetchOp_crcOut (s : State) (v : Nat) : (s.fetchOp v).crcOut = s.crcOut := rfl
@[simp] theorem State.fetchOp_rspType (s : State) (v : Nat) : (s.fetchOp v).rspType = s.rspType := rfl
@[simp] theorem State.fetchOp_rspLen (s : State) (v : Nat) : (s.fetchOp v).rspLen = s.rspLen := rfl
@[simp] theorem State.fetchOp_rspCrc (s : State) (v : Nat) : (s.fetchOp v).rspCrc = s.rspCrc := rfl
@[simp] theorem State.fetchOp_rspPayload (s : State) (v : Nat) : (s.fetchOp v).rspPayload = s.rspPayload := rfl
@[simp] theorem State.fetchOp_classOut (s : State) (v : Nat) : (s.fetchOp v).classOut = s.classOut := rfl
@[simp] theorem State.fetchOp_repType (s : State) (v : Nat) : (s.fetchOp v).repType = s.repType := rfl
@[simp] theorem State.fetchOp_repLen (s : State) (v : Nat) : (s.fetchOp v).repLen = s.repLen := rfl
@[simp] theorem State.fetchOp_repPayload (s : State) (v : Nat) : (s.fetchOp v).repPayload = s.repPayload := rfl
@[simp] theorem State.fetchOp_queue (s : State) (v : Nat) : (s.fetchOp v).queue = s.queue := rfl
@[simp] theorem State.fetchOp_diag (s : State) (v : Nat) : (s.fetchOp v).diag = s.diag := rfl
@[simp] theorem State.fetchOp_phase (s : State) (v : Nat) : (s.fetchOp v).phase = s.phase := rfl
@[simp] theorem State.fetchOp_opk (s : State) (v : Nat) : (s.fetchOp v).opk = s.opk := rfl
@[simp] theorem State.fetchOp_txbuf (s : State) (v : Nat) : (s.fetchOp v).txbuf = s.txbuf := rfl
@[simp] theorem State.fetchOp_scode (s : State) (v : Nat) : (s.fetchOp v).scode = s.scode := rfl
@[simp] theorem State.fetchOp_rType (s : State) (v : Nat) : (s.fetchOp v).rType = s.rType := rfl
@[simp] theorem State.fetchOp_rLen (s : State) (v : Nat) : (s.fetchOp v).rLen = s.rLen := rfl
@[simp] theorem State.fetchOp_rBuf (s : State) (v : Nat) : (s.fetchOp v).rBuf = s.rBuf := rfl
@[simp] theorem State.fetchOp_rLo (s : State) (v : Nat) : (s.fetchOp v).rLo = s.rLo := rfl
@[simp] theorem State.fetchOp_rHi (s : State) (v : Nat) : (s.fetchOp v).rHi = s.rHi := rfl
@[simp] theorem State.fetchOp_env (s : State) (v : Nat) : (s.fetchOp v).env = { s.env with host := s.env.host.tail } := rfl

end Sys2Proof.Machine
end

