-- ==== Sys2Proof/Laws/Ops.lean ====
section
/-! SUPPORT. Local laws of the encoding helpers and the payload arrays, and for each shared operation one lemma that
says once everything it can do. Provers cite these instead of unfolding the operations. -/

namespace Sys2Proof

/-! ### Type bytes, CRC pairs, lengths -/

@[simp] theorem typeClass_mkType (c : WireClass) (k : Code) : typeClass (mkType c k) = c := by
  revert c k; decide +kernel

@[simp] theorem typeCode_mkType (c : WireClass) (k : Code) : typeCode (mkType c k) = k := by
  revert c k; decide +kernel

@[simp] theorem mkType_typeClass_typeCode (t : Byte) : mkType (typeClass t) (typeCode t) = t := by
  revert t; decide +kernel

theorem mkType_zero (k : Code) : mkType 0b00 k = k.setWidth 8 := by
  revert k; decide +kernel

@[simp] theorem crcLow_crcJoin (lo hi : Byte) : crcLow (crcJoin lo hi) = lo := by
  ext i h
  simp [crcLow, crcJoin, h, Nat.lt_of_lt_of_le h (show 8 ≤ 16 by omega)]

@[simp] theorem crcHigh_crcJoin (lo hi : Byte) : crcHigh (crcJoin lo hi) = hi := by
  ext i h
  have h1 : 8 + i < 16 := by omega
  simp [crcHigh, crcJoin, h1, BitVec.getLsbD_eq_getElem h]

@[simp] theorem crcJoin_crcLow_crcHigh (c : Word) : crcJoin (crcLow c) (crcHigh c) = c := by
  ext i h
  by_cases h8 : i < 8
  · simp [crcHigh, crcJoin, crcLow, h8, BitVec.getLsbD_eq_getElem h]
  · have h1 : i - 8 < 8 := by omega
    have h2 : 8 + (i - 8) = i := by omega
    simp [crcHigh, crcJoin, crcLow, h8, h1, h2, BitVec.getLsbD_eq_getElem h]

theorem lengthByte_toNat {p : List Byte} (h : p.length ≤ maxPayload) : (lengthByte p).toNat = p.length := by
  simp only [lengthByte, BitVec.toNat_ofNat]
  exact Nat.mod_eq_of_lt (by simp only [maxPayload] at h; omega)

@[simp] theorem frameBytes_length (t : Byte) (p : List Byte) (c : Word) : (frameBytes t p c).length = 4 + p.length := by
  simp [frameBytes, coveredBytes]; omega

namespace Machine

@[simp] theorem encodeFrame_length (t : Byte) (p : List Byte) : (encodeFrame t p).length = 4 + p.length := by
  simp [encodeFrame]

/-! ### The payload arrays -/

/-- An array written from a payload gives the payload back (10_state.md R34, R39). -/
theorem payloadBytes_payloadRegs {p : List Byte} (h : p.length ≤ maxPayload) :
    payloadBytes (payloadRegs p) (lengthByte p) = p := by
  have e : ((p ++ List.replicate 22 (0x00 : Byte)).take 22).take p.length = p := by
    rw [List.take_take, Nat.min_eq_left h, List.take_left]
  simpa [payloadBytes, payloadRegs, Vector.toList, lengthByte_toNat h] using e

/-- An array written from a payload is 0x00 beyond it (10_state.md R34, R39). -/
theorem payloadRegs_tail {p : List Byte} (h : p.length ≤ maxPayload) (i : Fin 22)
    (hi : (lengthByte p).toNat ≤ i.val) : (payloadRegs p)[i] = 0x00 := by
  rw [lengthByte_toNat h] at hi
  simp only [payloadRegs, Fin.getElem_fin, Vector.getElem_mk, List.getElem_toArray, List.getElem_take,
    List.getElem_append_right hi, List.getElem_replicate]

theorem payloadBytes_length (v : Vector Byte 22) (n : Byte) : (payloadBytes v n).length = min n.toNat 22 := by
  simp [payloadBytes]

/-! ### Issue -/

theorem State.issue_idle {s : State} (h : s.status.busy = false) (f : State → State) : s.issue f = f s := by
  simp [State.issue, h]

theorem State.issue_busy {s : State} (h : s.status.busy = true) (f : State → State) : s.issue f = s.setOverlap := by
  simp [State.issue, h]

/-- No meaning faults or refuses (60_exceptions.md R214). -/
theorem exec_answers_next (i : Instr) (s : State) : ∃ t, exec i s = .next t := by
  cases i <;> exact ⟨_, rfl⟩

/-! ### The frame writer -/

/-- Everything a transmit byte can do: hold, advance, end the frame, or fail. -/
theorem State.txByte_cases (s : State) (i : Nat) (b : Byte) :
    (s.env.tx = [] ∧ s.txByte i b = s) ∨
    (∃ rest, s.env.tx = .ok :: rest ∧ i + 1 < s.txbuf.length ∧
      s.txByte i b = { s.popTx.putWire b with phase := .tx (i + 1) }) ∨
    (∃ rest, s.env.tx = .ok :: rest ∧ s.txbuf.length ≤ i + 1 ∧ s.txByte i b = (s.popTx.putWire b).sentAll) ∨
    (∃ reached rest, s.env.tx = .fail reached :: rest ∧
      s.txByte i b = (if reached then s.popTx.putWire b else s.popTx).finish .ioError) := by
  unfold State.txByte
  split
  · exact .inl ⟨‹_›, rfl⟩
  · rename_i rest h
    by_cases hl : i + 1 < s.txbuf.length
    · exact .inr (.inl ⟨rest, h, hl, by simp [hl]⟩)
    · exact .inr (.inr (.inl ⟨rest, h, by omega, by simp [hl]⟩))
  · rename_i reached rest h
    exact .inr (.inr (.inr ⟨reached, rest, h, rfl⟩))

/-! ### What an operation does with a frame or a failure -/

/-- A desynchronisation of an engine operation leaves the session dead and the core Idle. -/
theorem State.desync_cases (s : State) :
    (s.opk = .pollReport ∧ s.desync = s.setDead.finishPoll false .desync) ∨
    (s.opk = .transact ∧ s.desync = s.setDead.finish .desync) ∨
    ((s.opk = .receive ∨ s.opk = .send) ∧ s.desync = s) := by
  unfold State.desync
  split <;> simp_all

theorem enqueue_cases {R : Type} (P : Params R) (t : Byte) (p : List Byte) (s : State) :
    (queueFull P s = true ∧ enqueue P t p s = (s.log (.queueOverflow t (lengthByte p))).setQovf) ∨
    (queueFull P s = false ∧ enqueue P t p s = { s with queue := s.queue ++ [⟨t, p⟩] }) := by
  unfold enqueue
  cases queueFull P s <;> simp

theorem queueFull_iff {R : Type} (P : Params R) (s : State) :
    queueFull P s = true ↔ ∃ k, P.qdepth = some k ∧ k ≤ s.queue.length := by
  unfold queueFull
  cases P.qdepth <;> simp

/-- Everything the transaction does with a frame (42_engine.md R176). -/
theorem processFrame_cases {R : Type} (P : Params R) (t : Byte) (p : List Byte) (c : Word) (s : State) :
    (frameCrc t p ≠ c ∧ processFrame P t p c s = s.desync) ∨
    (frameCrc t p = c ∧ classifyType t s.scode = .normal ∧ processFrame P t p c s = takeNormal t p c s) ∨
    (frameCrc t p = c ∧ classifyType t s.scode = .error ∧ processFrame P t p c s = takeError t p c s) ∨
    (frameCrc t p = c ∧ classifyType t s.scode = .report ∧ processFrame P t p c s = takeReport P t p s) ∨
    (frameCrc t p = c ∧ classifyType t s.scode = .foreign ∧ processFrame P t p c s = takeForeign t p s) := by
  by_cases h : frameCrc t p = c
  · cases hk : classifyType t s.scode <;> simp [processFrame, checkedFrame, h, hk]
  · simp [processFrame, checkedFrame, h]

/-- Everything POLL_REPORT does with a frame (42_engine.md R181). -/
theorem pollProcess_cases {R : Type} (P : Params R) (t : Byte) (p : List Byte) (c : Word) (s : State) :
    (frameCrc t p ≠ c ∧ pollProcess P t p c s = s.desync) ∨
    (frameCrc t p = c ∧ typeClass t = 0b10 ∧ (∃ r, P.reportDecode (typeCode t) p = some r) ∧
      pollProcess P t p c s = (s.writeRep t p).finishPoll true .ok) ∨
    (frameCrc t p = c ∧ typeClass t = 0b10 ∧ P.reportDecode (typeCode t) p = none ∧
      pollProcess P t p c s = (s.log (.droppedReport t (lengthByte p))).finishPoll false .noReport) ∨
    (frameCrc t p = c ∧ typeClass t ≠ 0b10 ∧
      pollProcess P t p c s = (s.log (.pollAnomaly t (lengthByte p))).finishPoll false .noReport) := by
  by_cases h : frameCrc t p = c
  · by_cases hc : typeClass t = 2#2
    · cases hr : P.reportDecode (typeCode t) p <;> simp [pollProcess, checkedFrame, h, hc, hr]
    · simp [pollProcess, checkedFrame, h, hc]
  · simp [pollProcess, checkedFrame, h]

/-- Everything a report does inside a transaction (42_engine.md R172, R173, R178). -/
theorem takeReport_cases {R : Type} (P : Params R) (t : Byte) (p : List Byte) (s : State) :
    (P.reportDecode (typeCode t) p = none ∧
      takeReport P t p s = { s.log (.droppedReport t (lengthByte p)) with phase := .rxType }) ∨
    (∃ r, P.reportDecode (typeCode t) p = some r ∧ takeReport P t p s = { enqueue P t p s with phase := .rxType }) := by
  unfold takeReport
  cases P.reportDecode (typeCode t) p <;> simp

/-- A received-type row: outside the last byte of a frame it does nothing, in a TRANSACT it is the CRC check and its
arm, in another operation it is that operation's handling of the frame (log 9). -/
theorem receivedRow_cases (t : Byte) (arm : List Byte → Word → State → State) (s : State) :
    (s.phase ≠ .rxCrcHi ∧ receivedRow t arm s = s) ∨
    (s.phase = .rxCrcHi ∧ s.opk = .transact ∧ frameCrc t s.rBuf = s.latchedCrc ∧
      receivedRow t arm s = arm s.rBuf s.latchedCrc s) ∨
    (s.phase = .rxCrcHi ∧ s.opk = .transact ∧ frameCrc t s.rBuf ≠ s.latchedCrc ∧ receivedRow t arm s = s.desync) ∨
    (s.phase = .rxCrcHi ∧ s.opk ≠ .transact ∧
      receivedRow t arm s = gotFrame Config.params t s.rBuf s.latchedCrc s) := by
  by_cases h : s.phase = .rxCrcHi <;> by_cases ho : s.opk = .transact <;>
    by_cases hc : frameCrc t s.rBuf = s.latchedCrc <;> simp [receivedRow, checkedFrame, h, ho, hc]

/-! ### The turns and the step -/

/-- Everything a step can do: nothing, a turn of the host, or a turn of the core. -/
theorem step_cases (s : State) :
    (nextTurn s = none ∧ step s = .next s) ∨
    (nextTurn s = some .host ∧ step s = hostTurn s.popTurn) ∨
    (nextTurn s = some .core ∧ step s = coreTurn s.popTurn) := by
  unfold step
  rcases h : nextTurn s with _ | t
  · exact .inl ⟨rfl, rfl⟩
  · cases t
    · exact .inr (.inl ⟨rfl, rfl⟩)
    · exact .inr (.inr ⟨rfl, rfl⟩)

/-- Everything the host's turn can do. -/
theorem hostTurn_cases (s : State) :
    (s.env.host = [] ∧ hostTurn s = .next s) ∨
    (∃ v rest, s.env.host = .wr Reg.op.index v :: rest ∧
      hostTurn s = exec (decodeOperation (BitVec.ofNat 8 v)) (s.fetchOp v)) ∨
    (∃ x v rest, s.env.host = .wr x v :: rest ∧ x ≠ Reg.op.index ∧ hostTurn s = .next (writeIndex s.popHost x v)) ∨
    (∃ x rest, s.env.host = .rd x :: rest ∧ hostTurn s = .next (s.popHost.noteRead x (readIndex s x))) ∨
    (∃ rest, s.env.host = .wait :: rest ∧ hostTurn s = if s.status.busy then .next s else .next s.popHost) ∨
    (∃ rest, s.env.host = .reset :: rest ∧ hostTurn s = .next s.popHost.assertReset) := by
  unfold hostTurn
  split
  · exact .inl ⟨‹_›, rfl⟩
  · rename_i x v rest h
    by_cases hx : x = Reg.op.index
    · subst hx
      exact .inr (.inl ⟨v, rest, h, by simp⟩)
    · exact .inr (.inr (.inl ⟨x, v, rest, h, hx, by simp [hx]⟩))
  · rename_i x rest h
    exact .inr (.inr (.inr (.inl ⟨x, rest, h, rfl⟩)))
  · rename_i rest h
    exact .inr (.inr (.inr (.inr (.inl ⟨rest, h, rfl⟩))))
  · rename_i rest h
    exact .inr (.inr (.inr (.inr (.inr ⟨rest, h, rfl⟩))))

end Machine

end Sys2Proof
end

