-- ==== Sys2Proof/Laws/Frame.lean ====
section
/-! SUPPORT. Local laws of frames as records, of the frame reader over a stream, and of what ends a TRANSACT. -/

namespace Sys2Proof.Machine

theorem Frame.ofParts_eq_some_iff {t : Byte} {p : List Byte} {c : Word} {o : Origin} {f : Frame} :
    Frame.ofParts t p c o = some f ↔ f.ftype = t ∧ f.payload = p ∧ f.crc = c ∧ f.origin = o := by
  unfold Frame.ofParts
  constructor
  · intro h
    split at h
    · cases h; exact ⟨rfl, rfl, rfl, rfl⟩
    · cases h
  · rintro ⟨rfl, rfl, rfl, rfl⟩
    rw [dif_pos f.payload_le]

/-- A constructed frame passes its CRC check (41_codec.md R141). -/
theorem constructFrame_crcOk {t : Byte} {p : List Byte} {f : Frame} (h : constructFrame t p = some f) : f.crcOk = true := by
  obtain ⟨rfl, rfl, hc, -⟩ := Frame.ofParts_eq_some_iff.mp h
  simp [Frame.crcOk, hc]

/-- RSP holds a frame wherever RSP_LEN is legal, which the invariant says (10_state.md R34). -/
theorem State.rspFrame_isSome {s : State} (h : s.rspLen.toNat ≤ maxPayload) : s.rspFrame.isSome = true := by
  have hp : s.rspBytes.length ≤ maxPayload := by
    simp only [State.rspBytes, payloadBytes_length]
    omega
  simp [State.rspFrame, Frame.ofParts, hp, Nat.not_lt.mpr h]

/-- A queue entry of a legal payload is a frame (10_state.md R38). -/
theorem QEntry.frame_isSome {e : QEntry} (h : e.payload.length ≤ maxPayload) : e.frame.isSome = true := by
  simp [QEntry.frame, Frame.ofParts, h]

theorem readBytes_map_byte (l : List Byte) (rest : List RxAnswer) :
    readBytes l.length (l.map .byte ++ rest) = .ok (l, rest) := by
  induction l with
  | nil => rfl
  | cons b l ih => simp [readBytes, ih]

/-- The reader reads any frame's bytes as that frame, with its CRC as received (41_codec.md R145, R148, R149). -/
theorem readFrame_frameBytes {t : Byte} {p : List Byte} (h : p.length ≤ maxPayload) (c : Word) (rest : List RxAnswer) :
    readFrame ((frameBytes t p c).map .byte ++ rest) = .got t p c rest := by
  have h1 : readBytes p.length (p.map .byte ++ .byte (crcLow c) :: .byte (crcHigh c) :: rest) =
      .ok (p, .byte (crcLow c) :: .byte (crcHigh c) :: rest) := readBytes_map_byte p _
  simp [frameBytes, coveredBytes, readFrame, lengthByte_toNat h, Nat.not_lt.mpr h, h1, readBytes]

/-- A frame that ends no TRANSACT is passed over (42_engine.md R176). -/
theorem deliversEnd_absorbed {sent : Code} {t : Byte} {p : List Byte} (h : p.length ≤ maxPayload)
    (hk : classifyType t sent = .report ∨ classifyType t sent = .foreign) (n : Nat) (rest : List RxAnswer) :
    deliversEnd sent (n + 1) ((encodeFrame t p).map .byte ++ rest) = deliversEnd sent n rest := by
  simp only [deliversEnd, encodeFrame, readFrame_frameBytes h, if_true]
  rcases hk with hk | hk <;> simp [hk]

end Sys2Proof.Machine
end

