-- ==== Sys2Proof/Laws/Step.lean ====
section
/-! SUPPORT. What a core's step does at each kind of phase, for the proofs that follow an operation through its steps. -/

namespace Sys2Proof.Machine

@[simp] theorem strayPhase_popTurn (s : State) : strayPhase s.popTurn = strayPhase s := rfl

/-- A core's step at a receive phase with a byte answered. -/
theorem step_core_byte {s : State} {b : Byte} {rest : List RxAnswer} (ht : nextTurn s = some .core)
    (hs : strayPhase s = false) (hi : s.phase ≠ .idle) (htx : ∀ i, s.phase ≠ .tx i)
    (hr : s.env.rx = .byte b :: rest) : step s = coreByte b s.popTurn := by
  simp only [step, ht, coreTurn, strayPhase_popTurn, hs, State.popTurn_phase, State.popTurn_env, hr]
  cases hp : s.phase <;> simp_all

/-- A core's step at a receive phase with a failure answered. -/
theorem step_core_fail {s : State} {rest : List RxAnswer} (ht : nextTurn s = some .core)
    (hs : strayPhase s = false) (hi : s.phase ≠ .idle) (htx : ∀ i, s.phase ≠ .tx i)
    (hr : s.env.rx = .fail :: rest) : step s = .next s.popTurn.popRx.rxFail := by
  simp only [step, ht, coreTurn, strayPhase_popTurn, hs, State.popTurn_phase, State.popTurn_env, hr]
  cases hp : s.phase <;> simp_all

/-- A core's step at a receive phase with no answer yet. -/
theorem step_core_hold {s : State} (ht : nextTurn s = some .core)
    (hs : strayPhase s = false) (hi : s.phase ≠ .idle) (htx : ∀ i, s.phase ≠ .tx i)
    (hr : s.env.rx = []) : step s = .next s.popTurn := by
  simp only [step, ht, coreTurn, strayPhase_popTurn, hs, State.popTurn_phase, State.popTurn_env, hr]
  cases hp : s.phase <;> simp_all

/-- The core's turn at a transmit phase offers the byte of `txbuf` that the phase names; the row of a TRANSACT's type
byte does the same. -/
theorem coreTurn_tx {s : State} {i : Nat} (hs : strayPhase s = false) (hp : s.phase = .tx i) :
    coreTurn s = .next (s.txByte i (s.txbuf.getD i 0)) := by
  simp only [coreTurn, hs, hp, sentInstr]
  by_cases hc : i = 0 ∧ s.opk = .transact
  · obtain ⟨rfl, ho⟩ := hc
    by_cases hcl : typeClass (s.txbuf.getD 0 0) = 0
    · have hb : mkType 0b00 (typeCode (s.txbuf.getD 0 0)) = s.txbuf.getD 0 0 := by
        rw [show (0b00 : WireClass) = typeClass (s.txbuf.getD 0 0) from hcl.symm, mkType_typeClass_typeCode]
      simp only [ho, and_self, if_true, decodeSentType, hcl, exec, execTxCommandType, hp, hb, Bool.false_eq_true, if_false]
    · simp only [ho, and_self, if_true, decodeSentType, hcl, Bool.false_eq_true, if_false]
  · simp only [hc, Bool.false_eq_true, if_false]

/-- A core's step at a transmit phase. -/
theorem step_core_tx {s : State} {i : Nat} (ht : nextTurn s = some .core) (hs : strayPhase s = false)
    (hp : s.phase = .tx i) : step s = .next (s.popTurn.txByte i (s.txbuf.getD i 0)) := by
  simpa only [step, ht, State.popTurn_txbuf] using coreTurn_tx (s := s.popTurn) hs hp

end Sys2Proof.Machine
end

