-- ==== Sys2Proof/Laws/Fairness.lean ====
section
/-! SUPPORT. What a step uses up of the turns and answers listed, and that under the fairness assumption every operation
ends (70_reset_and_hazards.md R249). -/

namespace Sys2Proof.Machine

/-- No answer and no turn is added from `s` to `t`. -/
structure NoMoreAnswers (s t : State) : Prop where
  sched : t.env.sched = s.env.sched
  tx : t.env.tx.length ≤ s.env.tx.length
  rx : t.env.rx.length ≤ s.env.rx.length

theorem NoMoreAnswers.of_env {s t : State} (h : t.env = s.env) : NoMoreAnswers s t := by
  constructor <;> simp [h]

theorem State.desync_env (s : State) : s.desync.env = s.env := by
  unfold State.desync; split <;> rfl

theorem State.ioFail_env (s : State) : s.ioFail.env = s.env := by
  unfold State.ioFail; split <;> rfl

theorem State.truncated_env (s : State) : s.truncated.env = s.env := by
  unfold State.truncated; split <;> simp [State.desync_env]

theorem State.badLength_env (s : State) : s.badLength.env = s.env := by
  unfold State.badLength; split <;> simp [State.desync_env]

theorem State.rxFail_env (s : State) : s.rxFail.env = s.env := by
  unfold State.rxFail; split <;> simp [State.ioFail_env, State.truncated_env]

theorem State.rxByte_env (s : State) (b : Byte) : (s.rxByte b).env = s.env := by
  unfold State.rxByte; split <;> (try split) <;> simp [State.badLength_env]

theorem enqueue_env {R : Type} (P : Params R) (t : Byte) (p : List Byte) (s : State) : (enqueue P t p s).env = s.env := by
  unfold enqueue; split <;> rfl

theorem takeReport_env {R : Type} (P : Params R) (t : Byte) (p : List Byte) (s : State) :
    (takeReport P t p s).env = s.env := by
  unfold takeReport; split <;> simp [enqueue_env]

theorem checkedFrame_env (t : Byte) (p : List Byte) (c : Word) (s : State) (f : State → State)
    (h : (f s).env = s.env) : (checkedFrame t p c s f).env = s.env := by
  unfold checkedFrame; split <;> simp [State.desync_env, h]

theorem processFrame_env {R : Type} (P : Params R) (t : Byte) (p : List Byte) (c : Word) (s : State) :
    (processFrame P t p c s).env = s.env := by
  refine checkedFrame_env _ _ _ _ _ ?_
  split <;> simp [takeReport_env, takeNormal, takeError, takeForeign]

theorem pollProcess_env {R : Type} (P : Params R) (t : Byte) (p : List Byte) (c : Word) (s : State) :
    (pollProcess P t p c s).env = s.env := by
  refine checkedFrame_env _ _ _ _ _ ?_
  split <;> (try split) <;> simp

theorem gotFrame_env {R : Type} (P : Params R) (t : Byte) (p : List Byte) (c : Word) (s : State) :
    (gotFrame P t p c s).env = s.env := by
  unfold gotFrame; split <;> simp [processFrame_env, pollProcess_env]

theorem receivedRow_env (t : Byte) (arm : List Byte → Word → State → State) (s : State)
    (h : ∀ p c, (arm p c s).env = s.env) : (receivedRow t arm s).env = s.env := by
  unfold receivedRow
  split <;> (try split) <;> simp [gotFrame_env, checkedFrame_env, h]

theorem State.sentAll_env (s : State) : s.sentAll.env = s.env := by
  unfold State.sentAll; split <;> rfl

theorem State.issue_noMore {s : State} {f : State → State} (h : NoMoreAnswers s (f s)) : NoMoreAnswers s (s.issue f) := by
  unfold State.issue; split
  · exact .of_env rfl
  · exact h

theorem State.askedRxNonEmpty_noMore (s : State) : NoMoreAnswers s s.askedRxNonEmpty := by
  unfold State.askedRxNonEmpty; split <;> exact ⟨rfl, le_rfl, le_rfl⟩

/-- A transmit byte uses up an answer, where there is one. -/
theorem State.txByte_env (s : State) (i : Nat) (b : Byte) :
    (s.txByte i b).env.sched = s.env.sched ∧ (s.txByte i b).env.rx = s.env.rx ∧
      (s.txByte i b).env.tx = s.env.tx.tail := by
  rcases s.txByte_cases i b with ⟨h, e⟩ | ⟨rest, h, -, e⟩ | ⟨rest, h, -, e⟩ | ⟨r, rest, h, e⟩
  · simp [e, h]
  · simp [e]
  · simp [e, State.sentAll_env]
  · cases r <;> simp [e]

theorem State.txByte_noMore (s : State) (i : Nat) (b : Byte) : NoMoreAnswers s (s.txByte i b) := by
  obtain ⟨h1, h2, h3⟩ := s.txByte_env i b
  exact ⟨h1, by rw [h3, List.length_tail]; omega, by rw [h2]⟩

/-- No instruction adds an answer or a turn. -/
theorem exec_noMore {i : Instr} {s t : State} (h : exec i s = .next t) : NoMoreAnswers s t := by
  cases i <;> obtain rfl := Host.Outcome.next.inj h
  case pollReport =>
    refine State.issue_noMore ?_
    have ha := s.askedRxNonEmpty_noMore
    split
    · exact .of_env rfl
    · split
      · exact .of_env rfl
      · split <;> exact ⟨ha.sched, ha.tx, ha.rx⟩
  case txCommandType k =>
    split
    · exact s.txByte_noMore _ _
    · exact .of_env rfl
  case frame => refine .of_env ?_; split <;> simp [gotFrame_env]
  case rxNormal => exact .of_env (receivedRow_env _ _ _ fun _ _ => rfl)
  case rxError => exact .of_env (receivedRow_env _ _ _ fun _ _ => rfl)
  case rxReport => exact .of_env (receivedRow_env _ _ _ fun _ _ => takeReport_env _ _ _ _)
  case rxForeign01 => exact .of_env (receivedRow_env _ _ _ fun _ _ => rfl)
  case rxForeign11 => exact .of_env (receivedRow_env _ _ _ fun _ _ => rfl)
  case rxForeign00 => exact .of_env (receivedRow_env _ _ _ fun _ _ => rfl)
  all_goals
    refine State.issue_noMore (.of_env ?_)
    (try split) <;> (try split) <;> rfl

/-- The turns and answers still listed: what a run can go on with. -/
def listed (s : State) : Nat := s.env.sched.length + s.env.tx.length + s.env.rx.length

theorem writeIndex_env (s : State) (x : Byte) (v : Nat) : (writeIndex s x v).env = s.env := by
  unfold writeIndex writeReg; split <;> (try split) <;> rfl

/-- A turn of the host uses no answer. -/
theorem hostTurn_noMore {s t : State} (h : hostTurn s = .next t) : NoMoreAnswers s t := by
  rcases hostTurn_cases s with ⟨-, e⟩ | ⟨v, _, -, e⟩ | ⟨x, v, _, -, -, e⟩ | ⟨x, _, -, e⟩ | ⟨_, -, e⟩ | ⟨_, -, e⟩ <;>
    rw [e] at h
  · cases h; exact .of_env rfl
  · have := exec_noMore h; exact ⟨this.sched, this.tx, this.rx⟩
  · cases h; exact ⟨by simp [writeIndex_env], by simp [writeIndex_env], by simp [writeIndex_env]⟩
  · cases h; exact ⟨rfl, le_rfl, le_rfl⟩
  · split at h <;> cases h <;> exact ⟨rfl, le_rfl, le_rfl⟩
  · cases h; exact ⟨rfl, le_rfl, le_rfl⟩

/-- A turn of the core adds nothing, and where the transport has answered it uses up an answer. -/
theorem coreTurn_uses {s t : State} (h : coreTurn s = .next t) :
    NoMoreAnswers s t ∧ (s.phase ≠ .idle → TransportAnswers s →
      t.env.tx.length + t.env.rx.length < s.env.tx.length + s.env.rx.length) := by
  unfold coreTurn at h
  split at h
  · cases h
  · split at h
    · rename_i hp
      cases h; exact ⟨.of_env rfl, fun hi => absurd hp hi⟩
    · rename_i i hp
      have key : t = s.txByte i (s.txbuf.getD i 0) := by
        have := coreTurn_tx (Bool.eq_false_iff.mpr ‹_›) hp
        simp only [coreTurn, hp] at this
        simp_all
      subst key
      refine ⟨s.txByte_noMore _ _, fun _ ha => ?_⟩
      obtain ⟨-, h2, h3⟩ := s.txByte_env i (s.txbuf.getD i 0)
      simp only [TransportAnswers, hp] at ha
      have := List.length_pos_of_ne_nil ha
      simp only [h2, h3, List.length_tail]
      omega
    · rename_i hi ht
      split at h
      · rename_i hr
        cases h
        refine ⟨.of_env rfl, fun _ ha => ?_⟩
        cases hp : s.phase <;> simp_all [TransportAnswers]
      · rename_i rest hr
        cases h
        refine ⟨⟨by simp [State.rxFail_env], by simp [State.rxFail_env], by simp [State.rxFail_env]⟩, fun _ _ => ?_⟩
        simp [State.rxFail_env, hr]
      · rename_i b rest hr
        have : NoMoreAnswers (s.takeByte b) t := by
          unfold coreByte at h
          split at h
          · have := exec_noMore h
            exact ⟨by simpa [State.rxByte_env] using this.sched, by simpa [State.rxByte_env] using this.tx,
              by simpa [State.rxByte_env] using this.rx⟩
          · cases h; exact .of_env (State.rxByte_env _ _)
        have h1 := this.sched
        have h2 := this.tx
        have h3 := this.rx
        simp only [State.takeByte_env, hr, List.tail_cons] at h1 h2 h3
        refine ⟨⟨h1, h2, ?_⟩, fun _ _ => ?_⟩ <;> simp only [hr, List.length_cons] <;> omega

theorem coreCanMove_of_answers {s : State} (hi : s.phase ≠ .idle) (ha : TransportAnswers s) : coreCanMove s = true := by
  cases hp : s.phase <;> simp_all [TransportAnswers, coreCanMove]

/-- While an operation is in flight and its transfer is answered, every step uses up a turn or an answer. -/
theorem step_uses {s t : State} (hi : s.phase ≠ .idle) (ha : TransportAnswers s) (h : step s = .next t) :
    listed t < listed s := by
  have hturn : nextTurn s ≠ none ∧ (nextTurn s = some .host → s.env.sched ≠ []) := by
    unfold nextTurn
    split <;> simp_all [coreCanMove_of_answers]
  rcases step_cases s with ⟨e, -⟩ | ⟨e, hs⟩ | ⟨e, hs⟩
  · exact absurd e hturn.1
  · have hn := hostTurn_noMore (hs ▸ h)
    have := List.length_pos_of_ne_nil (hturn.2 e)
    have h1 := congrArg List.length hn.sched
    have h2 := hn.tx
    have h3 := hn.rx
    simp only [State.popTurn_env, List.length_tail] at h1 h2 h3
    simp only [listed]
    omega
  · obtain ⟨hn, hu⟩ := coreTurn_uses (hs ▸ h)
    have hu := hu hi (by simpa [TransportAnswers] using ha)
    have h1 := congrArg List.length hn.sched
    simp only [State.popTurn_env, List.length_tail] at h1 hu
    simp only [listed]
    omega

theorem run_succ {s t : State} (h : step s = .next t) (n : Nat) :
    Host.Core.run Sys2Proof.core (n + 1) s = Host.Core.run Sys2Proof.core n t := by
  have h' : Sys2Proof.core.step s = .next t := h
  simp [Host.Core.run, h']

/-- The assumption holds on along the run. -/
theorem TransportsFair.step {s t : State} (hf : TransportsFair s) (h : Machine.step s = .next t) : TransportsFair t :=
  fun n u hu => hf (n + 1) u (by rw [run_succ h, hu])

/-- The assumption at a state is that of the state itself and that at the next one. -/
theorem TransportsFair.of_step {s t : State} (ha : TransportAnswers s) (hr : ResponseComes s)
    (h : Machine.step s = .next t) (ht : TransportsFair t) : TransportsFair s := by
  intro n u hu
  cases n with
  | zero => cases hu; exact ⟨ha, hr⟩
  | succ n => exact ht n u (by rw [← hu, run_succ h])

/-- An Idle core with nothing to come owes and is owed nothing. -/
theorem TransportsFair.of_quiet {s : State} (hi : s.phase = .idle) (hs : s.env.sched = []) (hh : s.env.host = []) :
    TransportsFair s := by
  have h : Machine.step s = .next s := by simp [Machine.step, nextTurn, coreCanMove, hostCanMove, hi, hs, hh]
  intro n
  induction n with
  | zero => intro u hu; cases hu; exact ⟨by simp [TransportAnswers, hi], fun h => absurd hi h⟩
  | succ n ih => intro u hu; exact ih u (by rw [← hu, run_succ h])

/-- Under the fairness assumption the operation in flight ends: after finitely many steps the core is Idle, unless a step
stops, which no step does where the invariant holds. -/
theorem TransportsFair.operation_ends {s : State} (hf : TransportsFair s) :
    ∃ n, n ≤ listed s ∧ ((∃ t, Host.Core.run Sys2Proof.core n s = .next t ∧ t.phase = .idle) ∨
      ∃ t, Host.Core.run Sys2Proof.core n s = .next t ∧ ∀ u, Machine.step t ≠ .next u) := by
  induction hm : listed s using Nat.strong_induction_on generalizing s with
  | _ m ih =>
    by_cases hi : s.phase = .idle
    · exact ⟨0, Nat.zero_le _, .inl ⟨s, rfl, hi⟩⟩
    by_cases hn : ∃ t, Machine.step s = .next t
    · obtain ⟨t, ht⟩ := hn
      have hlt := step_uses hi (hf 0 s rfl).1 ht
      obtain ⟨n, hle, hr⟩ := ih (listed t) (hm ▸ hlt) (hf.step ht) rfl
      exact ⟨n + 1, by omega, by simpa only [run_succ ht] using hr⟩
    · exact ⟨0, Nat.zero_le _, .inr ⟨s, rfl, fun u hu => hn ⟨u, hu⟩⟩⟩

end Sys2Proof.Machine
end

