-- ==== Sys2Proof/Laws/PerInstr.lean ====
section
/-! SUPPORT. A family of facts per instruction: the encoding of a well-formed row has 1 to 26 bytes (30_encoding.md
R81, R82, R88). -/

namespace Sys2Proof.Laws

/-- The encoding of a well-formed row is not empty and no longer than the longest frame. -/
def EncodedLength.Statement (i : Instr) : Prop :=
  ∀ sent : Code, i.wellFormed sent = true → 1 ≤ (encode i).length ∧ (encode i).length ≤ 26

theorem EncodedLength.nop : EncodedLength.Statement .nop := fun _ _ => by simp [encode]
theorem EncodedLength.crcInit : EncodedLength.Statement .crcInit := fun _ _ => by simp [encode]
theorem EncodedLength.crcByte : EncodedLength.Statement .crcByte := fun _ _ => by simp [encode]
theorem EncodedLength.crcFinal : EncodedLength.Statement .crcFinal := fun _ _ => by simp [encode]
theorem EncodedLength.crcFrame : EncodedLength.Statement .crcFrame := fun _ _ => by simp [encode]
theorem EncodedLength.checkCrc : EncodedLength.Statement .checkCrc := fun _ _ => by simp [encode]
theorem EncodedLength.send : EncodedLength.Statement .send := fun _ _ => by simp [encode]
theorem EncodedLength.receive : EncodedLength.Statement .receive := fun _ _ => by simp [encode]
theorem EncodedLength.classify : EncodedLength.Statement .classify := fun _ _ => by simp [encode]
theorem EncodedLength.transact : EncodedLength.Statement .transact := fun _ _ => by simp [encode]
theorem EncodedLength.pollReport : EncodedLength.Statement .pollReport := fun _ _ => by simp [encode]
theorem EncodedLength.illegal (b : Byte) : EncodedLength.Statement (.illegal b) := fun _ _ => by simp [encode]
theorem EncodedLength.rxNormal (k : Code) : EncodedLength.Statement (.rxNormal k) := fun _ _ => by simp [encode]
theorem EncodedLength.rxError (k : Code) : EncodedLength.Statement (.rxError k) := fun _ _ => by simp [encode]
theorem EncodedLength.rxReport (k : Code) : EncodedLength.Statement (.rxReport k) := fun _ _ => by simp [encode]
theorem EncodedLength.rxForeign01 (k : Code) : EncodedLength.Statement (.rxForeign01 k) := fun _ _ => by simp [encode]
theorem EncodedLength.rxForeign11 (k : Code) : EncodedLength.Statement (.rxForeign11 k) := fun _ _ => by simp [encode]
theorem EncodedLength.rxForeign00 (k : Code) : EncodedLength.Statement (.rxForeign00 k) := fun _ _ => by simp [encode]
theorem EncodedLength.txCommandType (k : Code) : EncodedLength.Statement (.txCommandType k) :=
  fun _ _ => by simp [encode]
theorem EncodedLength.frame (t : Byte) (p : List Byte) (c : Word) : EncodedLength.Statement (.frame t p c) := by
  intro sent h
  have hp : p.length ≤ 22 := by simpa [Instr.wellFormed] using h
  simp only [encode, frameBytes_length]
  omega

end Sys2Proof.Laws
end

