-- ==== Sys2Proof/Laws/Program.lean ====
section
/-! SUPPORT. Local laws of the assembler: what a payload's writes are, and which accesses are writes. -/

namespace Sys2Proof.Machine

@[simp] theorem HostAccess.asWrite_wr (x : Byte) (v : Nat) : (HostAccess.wr x v).asWrite = some (x, v) := rfl
@[simp] theorem HostAccess.asWrite_rd (x : Byte) : (HostAccess.rd x).asWrite = none := rfl
@[simp] theorem HostAccess.asWrite_wait : HostAccess.wait.asWrite = none := rfl
@[simp] theorem HostAccess.asWrite_reset : HostAccess.reset.asWrite = none := rfl

/-- A payload that fits CMD_PAYLOAD from entry `k` on is written byte by byte, in order (30_encoding.md R96). -/
theorem payloadWrites_eq (p : List Byte) : ∀ k, k + p.length ≤ 22 →
    payloadWrites k p = p.mapIdx fun i b => .wr (BitVec.ofNat 8 (0x20 + (k + i))) b.toNat := by
  induction p with
  | nil => exact fun _ _ => rfl
  | cons b p ih =>
    intro k h
    simp only [List.length_cons] at h
    rw [payloadWrites, dif_pos (by omega), ih (k + 1) (by omega)]
    simp [List.mapIdx_cons, Reg.index, Nat.add_comm, Nat.add_left_comm]

/-- Whatever its length, a payload's writes are at most the 22 entries of CMD_PAYLOAD (10_state.md R22; log 19). -/
theorem payloadWrites_length (p : List Byte) (k : Nat) : (payloadWrites k p).length = min p.length (22 - k) := by
  induction p generalizing k with
  | nil => simp [payloadWrites]
  | cons b p ih =>
    rw [payloadWrites]
    split
    · simp only [List.length_cons, ih]; omega
    · simp only [List.length_nil, List.length_cons]; omega

/-- Accesses that are all writes, as writes. -/
theorem filterMap_asWrite_mapIdx (l : List Byte) (f : Nat → Byte) :
    (l.mapIdx fun i b => HostAccess.wr (f i) b.toNat).filterMap HostAccess.asWrite =
      l.mapIdx fun i b => (f i, b.toNat) := by
  induction l generalizing f with
  | nil => rfl
  | cons b l ih => simp [List.mapIdx_cons, ih fun i => f (i + 1)]

end Sys2Proof.Machine
end

