-- ==== Sys2Proof/Tests/Slice0.lean ====
section
/-! SUPPORT. Tests of the model: ill-formed terms, decoding of words written out from the spec's encodings, the
vectors of spec/95_test_vectors.md that one operation or one step can show, and for every statement with hypotheses
a concrete state and operands that meet them. Expected values are the spec's, not the model's. -/

namespace Sys2Proof.Tests

set_option Elab.async false -- one theorem at a time, so that the many small ones do not each take a thread

open Sys2Proof Sys2Proof.Machine

/-! ### Well-formedness: each check refuses an ill-formed term -/

theorem test_wf_legal_opcode_is_not_illegal : (Instr.illegal 0x0A).wellFormed 0x06 = false := by decide
theorem test_wf_illegal_opcode : (Instr.illegal 0x0B).wellFormed 0x06 = true := by decide
theorem test_wf_normal_of_another_code : (Instr.rxNormal 0x07).wellFormed 0x06 = false := by decide
theorem test_wf_error_of_another_code : (Instr.rxError 0x07).wellFormed 0x06 = false := by decide
theorem test_wf_foreign01_of_sent_code : (Instr.rxForeign01 0x06).wellFormed 0x06 = false := by decide
theorem test_wf_foreign11_of_sent_code : (Instr.rxForeign11 0x06).wellFormed 0x06 = false := by decide
theorem test_wf_frame_of_23_bytes : (Instr.frame 0x46 (List.replicate 23 0) 0).wellFormed 0x06 = false := by decide

/-! ### Decoding, every constructor, words written out from 30_encoding.md R80, R89, R92, R94 -/

theorem test_decode_nop : decode .operation [0b00000000] = .ok .nop := by decide
theorem test_decode_crcInit : decode .operation [0b00000001] = .ok .crcInit := by decide
theorem test_decode_crcByte : decode .operation [0b00000010] = .ok .crcByte := by decide
theorem test_decode_crcFinal : decode .operation [0b00000011] = .ok .crcFinal := by decide
theorem test_decode_crcFrame : decode .operation [0b00000100] = .ok .crcFrame := by decide
theorem test_decode_checkCrc : decode .operation [0b00000101] = .ok .checkCrc := by decide
theorem test_decode_send : decode .operation [0b00000110] = .ok .send := by decide
theorem test_decode_receive : decode .operation [0b00000111] = .ok .receive := by decide
theorem test_decode_classify : decode .operation [0b00001000] = .ok .classify := by decide
theorem test_decode_transact : decode .operation [0b00001001] = .ok .transact := by decide
theorem test_decode_pollReport : decode .operation [0b00001010] = .ok .pollReport := by decide
theorem test_decode_illegal_first : decode .operation [0b00001011] = .ok (.illegal 0x0B) := by decide
theorem test_decode_illegal_last : decode .operation [0b11111111] = .ok (.illegal 0xFF) := by decide
theorem test_decode_rxNormal : decode (.receivedType 0x06) [0b01000110] = .ok (.rxNormal 0x06) := by decide
theorem test_decode_rxError : decode (.receivedType 0x06) [0b11000110] = .ok (.rxError 0x06) := by decide
theorem test_decode_rxReport : decode (.receivedType 0x3F) [0b10111111] = .ok (.rxReport 0x3F) := by decide
theorem test_decode_rxForeign01 : decode (.receivedType 0x06) [0b01000111] = .ok (.rxForeign01 0x07) := by decide
theorem test_decode_rxForeign11 : decode (.receivedType 0x06) [0b11000111] = .ok (.rxForeign11 0x07) := by decide
theorem test_decode_rxForeign00 : decode (.receivedType 0x06) [0b00000110] = .ok (.rxForeign00 0x06) := by decide
theorem test_decode_txCommandType : decode .sentType [0b00000110] = .ok (.txCommandType 0x06) := by decide
theorem test_decode_frame :
    decode .wireFrame [0x46, 0x02, 0x01, 0x02, 0x81, 0x2E] = .ok (.frame 0x46 [0x01, 0x02] 0x2E81) := by decide
theorem test_decode_rejects_length_23 :
    decode .wireFrame [0x46, 0x17, 0x00, 0x01, 0x02] = .error (.badLength 0x17) := by decide
theorem test_decode_rejects_truncated : decode .wireFrame [0x46, 0x00, 0xF1] = .error .truncated := by decide
theorem test_decode_rejects_trailing : decode .wireFrame [0x46, 0x00, 0xF1, 0x1D, 0x00] = .error .trailing := by decide
theorem test_decode_rejects_sent_class : decode .sentType [0b01000110] = .error (.notCommandClass 0x46) := by decide
theorem test_decode_rejects_two_bytes : decode .operation [0x01, 0x02] = .error .notOneByte := by decide
theorem test_table_word_operation : decodeTableWord 8 0x09 = some .transact := by decide
theorem test_table_word_illegal : decodeTableWord 8 0x3F = some (.illegal 0x3F) := by decide
theorem test_table_word_received :
    decodeTableWord 8 0x40 = some (.rxNormal 0x00) ∧ decodeTableWord 8 0x80 = some (.rxReport 0x00) ∧
    decodeTableWord 8 0xC1 = some (.rxForeign11 0x01) := by decide
theorem test_table_word_frame : decodeTableWord 48 0x2E8102010246 = some (.frame 0x46 [0x01, 0x02] 0x2E81) := by
  decide +kernel

/-! ### CRC and frames: V-CRC and V-COD of 95_test_vectors.md -/

theorem test_crc_check_value : crc16 [0x31, 0x32, 0x33, 0x34, 0x35, 0x36, 0x37, 0x38, 0x39] = 0x906E := by
  decide +kernel
theorem test_crc_empty_and_ff : crc16 [] = 0x0000 ∧ crc16 [0xFF] = 0xFF00 := by decide +kernel
theorem test_crc_step_46 : crcStep 0xFFFF 0x46 = 0x28B5 := by decide +kernel
theorem test_crc_table_entries :
    crcTable.getD 0x01 0 = 0x1189 ∧ crcTable.getD 0x80 0 = 0x8408 ∧ crcTable.getD 0xFF 0 = 0x0F78 := by decide
theorem test_encode_command : encodeFrame 0x06 [] = [0x06, 0x00, 0x97, 0x5B] := by decide +kernel
theorem test_encode_payload : encodeFrame 0x06 [0x10, 0x20] = [0x06, 0x02, 0x10, 0x20, 0x6F, 0xB6] := by decide +kernel

/-- V-COD-29: CRC is no part of a frame's identity, the payload's length is. -/
theorem test_frame_equality :
    Frame.same ⟨0x46, [1, 2], 0x2E81, .received, by decide⟩ ⟨0x46, [1, 2], 0x0000, .received, by decide⟩ = true ∧
    Frame.same ⟨0x46, [1, 2], 0, .received, by decide⟩ ⟨0x46, [1, 2, 0], 0, .received, by decide⟩ = false ∧
    Frame.same ⟨0x46, [1, 2], 0, .received, by decide⟩ ⟨0x47, [1, 2], 0, .received, by decide⟩ = false := by decide +kernel
/-- R140, R144: no frame of 23 payload bytes is constructed, and CMD with CMD_LEN = 23 is none. -/
theorem test_frame_bound :
    (constructFrame 0x06 (List.replicate 22 0)).isSome = true ∧ constructFrame 0x06 (List.replicate 23 0) = none ∧
    State.cmdFrame { State.reset with cmdLen := 23 } = none := by decide +kernel
/-- V-COD-27 and V-COD-31 to V-COD-34 as the reader's outcomes on a stream. -/
theorem test_readFrame_outcomes :
    readFrame (([0x46, 0x02, 0x01, 0x02, 0x81, 0x2E, 0x80] : List Byte).map .byte) =
      .got 0x46 [0x01, 0x02] 0x2E81 [.byte 0x80] ∧
    readFrame [.byte 0x46, .byte 0xFF, .byte 0x00] = .badLength 0x46 0xFF ∧ readFrame [.fail] = .ioFail ∧
    readFrame [.byte 0x46, .fail] = .truncated ∧ readFrame [.byte 0x46, .byte 0x00, .byte 0xF1, .fail] = .truncated ∧
    readFrame [.byte 0x46, .byte 0x00, .byte 0xF1] = .holds := by decide +kernel
/-- V-TR-7b, V-TR-1, V-TR-16 and R249: a report alone does not end a TRANSACT, a Fail, the response or a bad CRC does. -/
theorem test_deliversEnd :
    deliversEnd 0x06 6 ((encodeFrame 0x80 [0x01]).map .byte) = false ∧
    deliversEnd 0x06 7 ((encodeFrame 0x80 [0x01]).map .byte ++ [.fail]) = true ∧
    deliversEnd 0x06 5 ((encodeFrame 0x46 []).map .byte) = true ∧ deliversEnd 0x07 5 ((encodeFrame 0x46 []).map .byte) = false ∧
    deliversEnd 0x07 5 ((frameBytes 0x46 [] 0).map .byte) = true ∧ deliversEnd 0x06 1 [] = false := by decide +kernel

/-! ### States built small -/

/-- The block after reset with one access of the host to make, on the host's turn. -/
def withHost (a : HostAccess) : State := { State.reset with env := { Env.reset with host := [a], sched := [.host] } }

/-- An operation in flight at a phase, on the core's turn, with the receive transport's answers. -/
def inFlight (k : OpKind) (ph : Phase) (rx : List RxAnswer) : State :=
  { State.reset with
    status := { Status.reset with busy := true }
    opk := k
    phase := ph
    env := { Env.reset with rx := rx, sched := [.core] } }

/-- An operation in flight that has read all of a frame but its last byte. -/
def atLastByte (k : OpKind) (sent : Code) (t : Byte) (p : List Byte) (lo hi : Byte) : State :=
  { inFlight k .rxCrcHi [.byte hi] with scode := sent, rType := t, rLen := lengthByte p, rBuf := p, rLo := lo }

/-- The same with its last byte read: the state the rows of a received type are run in. -/
def frameRead (k : OpKind) (sent : Code) (t : Byte) (p : List Byte) (lo hi : Byte) : State :=
  { inFlight k .rxCrcHi [] with
    scode := sent, rType := t, rLen := lengthByte p, rBuf := p, rLo := lo, rHi := hi }

/-- A command in CMD: type and payload. -/
def withCmd (t : Byte) (p : List Byte) (s : State) : State :=
  { s with cmdType := t, cmdLen := lengthByte p, cmdPayload := payloadRegs p }

/-- A transmit phase, on the core's turn. -/
def sending (k : OpKind) (l : List Byte) (i : Nat) (tx : List TxAnswer) : State :=
  { State.reset with
    status := { Status.reset with busy := true }
    opk := k
    phase := .tx i
    txbuf := l
    env := { Env.reset with tx := tx, sched := [.core] } }

/-- A predicate of the next state, false where a step stops. -/
def nextSat (o : Host.Outcome State Fault Refusal) (f : State → Bool) : Bool :=
  match o with
  | .next s => f s
  | .fault _ => false
  | .refused _ => false

/-! ### One step or one operation: V-CRC, V-COD, V-CLS, V-TR, V-PL, V-HI -/

/-- V-HI-2: 0x1234 written to the 8-bit CMD_TYPE. -/
theorem test_write_truncates : nextSat (step (withHost (.wr 0x02 0x1234))) (·.cmdType = 0x34) = true := by decide +kernel
/-- V-HI-3: a reserved index. -/
theorem test_write_reserved : nextSat (step (withHost (.wr 0x0E 0x12))) (fun t => readIndex t 0x0E = 0) = true := by
  decide +kernel
/-- V-HI-3: RSP_TYPE is read-only. -/
theorem test_write_read_only : nextSat (step (withHost (.wr 0x07 0x12))) (·.rspType = 0x00) = true := by decide +kernel
/-- V-HI-1. -/
theorem test_illegal_status : nextSat (step (withHost (.wr 0x00 0x0B))) (statusWord · = 0x0080) = true := by decide +kernel
/-- V-COD-30: NOP after a desynchronisation. -/
theorem test_nop_keeps_dead :
    nextSat (exec .nop { State.reset with status := { Status.reset with dead := true, result := .desync } })
      (fun t => t.status.result = .ok && t.status.dead) = true := by decide +kernel
/-- A table word in the class of a normal response, placed, is the response of the next step (log 11). -/
theorem test_placed_word_runs :
    nextSat (step (State.reset.withFetchWord 8 0x40)) (fun t => t.rspType = 0x40 && t.status.result = .ok) = true ∧
    nextSat (step (State.reset.withFetchWord 8 0x0B)) (·.status.result = .illegalOp) = true ∧
    nextSat (step (State.reset.withFetchWord 48 0x2E8102010246)) (·.rspBytes = [0x01, 0x02]) = true := by decide +kernel
/-- R115's example. -/
theorem test_crcInit : nextSat (exec .crcInit { State.reset with crcAcc := 0x1234 }) (·.crcAcc = 0xFFFF) = true := by
  decide +kernel
/-- V-CRC-8, first byte. -/
theorem test_crcByte : nextSat (exec .crcByte { State.reset with crcDin := 0x31 }) (·.crcAcc = 0x2F8D) = true := by
  decide +kernel
/-- V-CRC-8, the end: CRC_ACC stays. -/
theorem test_crcFinal :
    nextSat (exec .crcFinal { State.reset with crcAcc := 0x6F91 }) (fun t => t.crcOut = 0x906E && t.crcAcc = 0x6F91) = true := by
  decide +kernel
/-- V-CRC-13. -/
theorem test_crcFrame_longest :
    nextSat (exec .crcFrame (withCmd 0xFF (List.replicate 22 0xFF) State.reset)) (·.crcOut = 0x77DA) = true := by
  decide +kernel
/-- V-CRC-12. -/
theorem test_crcFrame_bad_length :
    nextSat (exec .crcFrame { State.reset with cmdLen := 23 }) (fun t => t.status.result = .invalidLength && t.crcOut = 0) = true := by
  decide +kernel
/-- V-CRC-16. -/
theorem test_checkCrc_good :
    nextSat (exec .checkCrc (State.reset.writeRsp 0x4A [0x12, 0x34] 0x52F9)) (·.status.crcOk) = true := by decide +kernel
/-- V-CRC-15. -/
theorem test_checkCrc_after_reset : nextSat (exec .checkCrc State.reset) (fun t => !t.status.crcOk) = true := by
  decide +kernel
/-- V-COD-21: SEND keeps the class bits. -/
theorem test_send_keeps_class :
    nextSat (exec .send (withCmd 0xC6 [] State.reset)) (·.txbuf = [0xC6, 0x00, 0x3D, 0x91]) = true := by decide +kernel
/-- V-COD-22. -/
theorem test_send_bad_length :
    nextSat (exec .send { State.reset with cmdLen := 23 }) (fun t => t.phase = .idle && t.status.result = .invalidLength) = true := by
  decide +kernel
/-- V-COD-31: RECEIVE, length 255. -/
theorem test_receive_bad_length :
    nextSat (step (inFlight .receive .rxLen [.byte 0xFF, .byte 0x00]))
      (fun t => t.status.result = .invalidPacket && t.env.rx = [.byte 0x00] && !t.status.dead) = true := by decide +kernel
/-- V-COD-25: RECEIVE does not check the CRC. -/
theorem test_receive_bad_crc :
    nextSat (step (atLastByte .receive 0 0x46 [0x03, 0x02] 0x81 0x2E))
      (fun t => t.status.result = .ok && t.rspCrc = 0x2E81 && t.rspBytes = [0x03, 0x02]) = true := by decide +kernel
/-- V-CLS-11. -/
theorem test_classify_ignores_class :
    nextSat (exec .classify { State.reset with cmdType := 0xC6, rspType := 0x46 }) (·.classOut = 0b00) = true := by
  decide +kernel
/-- V-CLS-6. -/
theorem test_classify_foreign_error :
    nextSat (exec .classify { State.reset with cmdType := 0x06, rspType := 0xC7 }) (·.classOut = 0b11) = true := by
  decide +kernel
/-- V-TR-12: TRANSACT zeroes the class bits. -/
theorem test_transact_zeroes_class :
    nextSat (exec .transact (withCmd 0xC6 [] State.reset)) (fun t => t.txbuf = [0x06, 0x00, 0x97, 0x5B] && t.scode = 0x06) = true := by
  decide +kernel
/-- V-TR-11: the length before the session. -/
theorem test_transact_length_first :
    nextSat (exec .transact { State.reset with cmdLen := 23, status := { Status.reset with dead := true } })
      (·.status.result = .invalidLength) = true := by decide +kernel
/-- V-PL-1. -/
theorem test_poll_drains_head :
    nextSat (exec .pollReport { State.reset with queue := [⟨0x80, [0x01]⟩, ⟨0x80, [0x07]⟩] })
      (fun t => t.repBytes = [0x01] && t.queue = [⟨0x80, [0x07]⟩] && t.status.reportValid) = true := by decide +kernel
/-- V-PL-2. -/
theorem test_poll_no_data :
    nextSat (exec .pollReport { State.reset with env := { Env.reset with rxNonEmpty := [false] } })
      (fun t => t.status.result = .noReport && t.phase = .idle) = true := by decide +kernel
/-- V-TR-1, the last byte of the response. -/
theorem test_rxNormal :
    nextSat (step (atLastByte .transact 0x06 0x46 [] 0xF1 0x1D))
      (fun t => t.status.result = .ok && t.rspType = 0x46 && t.rspCrc = 0x1DF1) = true := by decide +kernel
/-- V-TR-2 and V-HI-7. -/
theorem test_rxError :
    nextSat (step (atLastByte .transact 0x06 0xC6 [0x7E] 0xAE 0x99))
      (fun t => statusWord t = 0x0060 && t.rspBytes = [0x7E]) = true := by decide +kernel
/-- L1-4, the foreign frame of another code. -/
theorem test_rxForeign01 :
    nextSat (step (atLastByte .transact 0x06 0x47 [] 0x29 0x04))
      (fun t => t.diag = [.foreign 0x47 0x00] && t.phase = .rxType && t.status.busy) = true := by decide +kernel
/-- V-COD-5 as an error of another code. -/
theorem test_rxForeign11 :
    nextSat (step (atLastByte .transact 0x07 0xC6 [] 0x3D 0x91))
      (fun t => t.diag = [.foreign 0xC6 0x00] && t.phase = .rxType) = true := by decide +kernel
/-- V-TR-15: an echo of the command. -/
theorem test_rxForeign00 :
    nextSat (step (atLastByte .transact 0x06 0x06 [] 0x97 0x5B))
      (fun t => t.diag = [.foreign 0x06 0x00] && t.phase = .rxType) = true := by decide +kernel
/-- V-TR-4, the bad CRC. -/
theorem test_transact_bad_crc :
    nextSat (step (atLastByte .transact 0x06 0x46 [0x00, 0x02] 0x81 0x2E))
      (fun t => t.status.result = .desync && t.status.dead && t.rspType = 0x00) = true := by decide +kernel
/-- V-PL-6: the CRC before the class. -/
theorem test_poll_bad_crc :
    nextSat (step (atLastByte .pollReport 0 0x80 [0x07] 0x47 0xA8))
      (fun t => t.status.result = .desync && t.status.dead && !t.status.reportValid) = true := by decide +kernel
/-- V-PL-4: a non-report frame. -/
theorem test_poll_anomaly :
    nextSat (step (atLastByte .pollReport 0 0x46 [] 0xF1 0x1D))
      (fun t => t.status.result = .noReport && t.diag = [.pollAnomaly 0x46 0x00]) = true := by decide +kernel
/-- V-COD-2, the first byte of a transaction's frame. -/
theorem test_txCommandType :
    nextSat (step (sending .transact [0x06, 0x00, 0x97, 0x5B] 0 [.ok]))
      (fun t => t.env.sent = [0x06] && t.phase = .tx 1) = true := by decide +kernel
/-- V-TR-8: a failure at the third byte. -/
theorem test_transmit_failure :
    nextSat (step (sending .transact [0x06, 0x00, 0x97, 0x5B] 2 [.fail false]))
      (fun t => t.status.result = .ioError && t.env.sent = [] && t.phase = .idle) = true := by decide +kernel
/-- V-TR-6b against V-TR-7: a failure after the first byte and at it. -/
theorem test_transact_failures :
    nextSat (step (inFlight .transact .rxLen [.fail])) (fun t => t.status.result = .desync && t.status.dead) = true ∧
    nextSat (step (inFlight .transact .rxType [.fail])) (fun t => t.status.result = .ioError && !t.status.dead) = true := by
  decide +kernel
/-- V-COD-33: the codec level. -/
theorem test_receive_truncated :
    nextSat (step (inFlight .receive .rxLen [.fail])) (fun t => t.status.result = .ioError && !t.status.dead) = true := by
  decide +kernel
/-- V-TR-17: OP written while a transaction holds. -/
theorem test_overlap :
    nextSat (step { inFlight .transact .rxType [] with env := { Env.reset with host := [.wr 0x00 0x09], sched := [.host] } })
      (fun t => t.status.overlap && t.phase = .rxType && t.status.busy) = true := by decide +kernel
/-- V-HI-5 on an operation in flight. -/
theorem test_reset_abandons :
    nextSat (step { inFlight .transact .rxType [] with env := { Env.reset with host := [.reset], sched := [.host] } })
      (fun t => statusWord t = 0x0000 && t.phase = .idle && t.crcAcc = 0xFFFF) = true := by decide +kernel
/-- V-HI-6: STATUS of V-TR-4's end. -/
theorem test_status_word :
    statusWord { State.reset with
      queue := [⟨0x80, [0x01]⟩]
      status := { Status.reset with dead := true, result := .desync } } = 0x0148 := by decide +kernel
/-- P3's first lines as host writes (R96). -/
theorem test_program_encoding :
    programEncoding [.loadcmd 0x06 [0x10, 0x20], .op .transact] =
      [(0x02, 0x06), (0x03, 0x02), (0x20, 0x10), (0x21, 0x20), (0x00, 0x09)] := by decide +kernel

/-- TEST_DECODE of 95_test_vectors.md. -/
def testDecode (k : Code) (p : List Byte) : Option Nat :=
  match p with
  | [b] => if k = 0x00 ∧ 1 ≤ b.toNat ∧ b.toNat ≤ 12 then some b.toNat else none
  | _ => none

/-- TEST_DECODE with a queue depth. -/
def testParams (depth : Option Nat) : Params Nat := ⟨depth, testDecode⟩

/-- V-TR-3, the first report. -/
theorem test_report_queued :
    (processFrame (testParams none) 0x80 [0x05] 0x8455 (frameRead .transact 0x06 0x80 [0x05] 0x55 0x84)).queue =
      [⟨0x80, [0x05]⟩] := by decide +kernel
/-- V-TR-14: an unrecognised report. -/
theorem test_report_dropped :
    (processFrame (testParams none) 0x81 [0x01, 0x02] 0x4279 (frameRead .transact 0x06 0x81 [0x01, 0x02] 0x79 0x42)).diag =
      [.droppedReport 0x81 0x02] := by decide +kernel
/-- V-TR-13: the second report at depth 1. -/
theorem test_report_overflow :
    (let t := processFrame (testParams (some 1)) 0x80 [0x02] 0xF0EA
        { frameRead .transact 0x06 0x80 [0x02] 0xEA 0xF0 with queue := [⟨0x80, [0x01]⟩] };
      t.status.qovf = true ∧ t.queue = [⟨0x80, [0x01]⟩] ∧ t.diag = [.queueOverflow 0x80 0x01]) := by decide +kernel
/-- V-PL-3: a report POLL_REPORT reads is returned and not queued. -/
theorem test_poll_returns_report :
    (let t := pollProcess (testParams none) 0x80 [0x07] 0xA747 (frameRead .pollReport 0 0x80 [0x07] 0x47 0xA7);
      t.repBytes = [0x07] ∧ t.queue = [] ∧ t.status.reportValid = true) := by decide +kernel
/-- V-PL-3b: key 0x0D is not recognised. -/
theorem test_poll_drops_report :
    (let t := pollProcess (testParams none) 0x80 [0x0D] 0x081D (frameRead .pollReport 0 0x80 [0x0D] 0x1D 0x08);
      t.diag = [.droppedReport 0x80 0x01] ∧ t.status.result = .noReport) := by decide +kernel

/-! ### The fairness assumption (70_reset_and_hazards.md R249) -/

/-- One answer for a frame of four bytes is not enough: the second transfer is never answered. -/
theorem test_fair_needs_each_answer : ¬TransportsFair (sending .send [0x06, 0x00, 0x97, 0x5B] 0 [.ok]) :=
  fun h => (h 1 _ rfl).1 rfl
/-- At the last byte of a SEND one answer is enough. -/
theorem test_fair_send : TransportsFair (sending .send [0x06, 0x00, 0x97, 0x5B] 3 [.ok]) :=
  .of_step (List.cons_ne_nil _ _) (fun _ h => absurd h (by decide)) rfl (.of_quiet rfl rfl rfl)
/-- At the last byte of the response of a TRANSACT that byte is enough. -/
theorem test_fair_transact : TransportsFair (atLastByte .transact 0x06 0x46 [] 0xF1 0x1D) :=
  .of_step (List.cons_ne_nil _ _) (fun _ _ => by decide +kernel) rfl
    (.of_quiet (by decide +kernel) (by decide +kernel) (by decide +kernel))

/-! ### Witnesses: for each statement with hypotheses, a state and operands that meet them -/

/-- CMD_LEN at 22 and at 23, in a state that is not busy. -/
def len22 : State := { State.reset with cmdLen := 22 }
def len23 : State := { State.reset with cmdLen := 23 }
def dead22 : State := { len22 with status := { Status.reset with dead := true } }

theorem witness_CrcInitSetsAccumulator : State.reset.status.busy = false := by decide
theorem witness_CrcByteAdvancesAccumulator : len22.status.busy = false := by decide
theorem witness_CrcFinalComplementsAccumulator : len23.status.busy = false := by decide
theorem witness_CrcFrameGeneratesCommandCrc :
    (len22.status.busy = false ∧ len22.cmdLen.toNat ≤ 22) ∧ (State.reset.status.busy = false ∧ State.reset.cmdLen.toNat ≤ 22) ∧
    (len23.status.busy = false ∧ 22 < len23.cmdLen.toNat) := by decide
theorem witness_CheckCrcComparesResponseCrc : (State.reset.writeRsp 0x46 [0x01, 0x02] 0x2E81).status.busy = false := by decide
theorem witness_CheckCrcDetectsPayloadBitFlip :
    (1 < ([0x01, 0x02] : List Byte).length ∧ 7 < 8) ∧
    (let s := State.reset.writeRsp 0x46 [0x01, 0x02] 0x2E81;
      s.status.busy = false ∧ s.rspLen.toNat ≤ 22 ∧ (1 : Fin 22).val < s.rspLen.toNat ∧ 7 < 8 ∧
      s.rspCrc = crc16 ([s.rspType, s.rspLen] ++ s.rspPayload.toList.take s.rspLen.toNat)) := by decide +kernel
theorem witness_DecodeOfEncode :
    (Instr.frame 0x46 (List.replicate 22 0xFF) 0).wellFormed 0x06 = true ∧ (Instr.illegal 0xFF).wellFormed 0x06 = true ∧
    (Instr.rxNormal 0x06).wellFormed 0x06 = true ∧ (Instr.rxForeign11 0x3F).wellFormed 0x06 = true := by decide
theorem witness_EncodeOfDecode :
    (∀ k, Space.receivedType 0x06 = .receivedType k → k = 0x06) ∧
    decode (.receivedType 0x06) [0xBF] = .ok (.rxReport 0x3F) := ⟨fun _ h => (Space.receivedType.inj h).symm, by decide⟩
theorem witness_ReceivedTypeRowsTotalDisjoint :
    (Instr.rxError 0x3F).space 0x3F = .receivedType 0x3F ∧ (Instr.rxError 0x3F).wellFormed 0x3F = true ∧
    encode (.rxError 0x3F) = [0xFF] := by decide
theorem witness_FrameDecodeRejectsBadBytes :
    22 < (23 : Byte).toNat ∧ 22 < (255 : Byte).toNat ∧ (List.replicate 22 (0 : Byte)).length ≤ 22 ∧ 25 < 4 + 22 ∧ 0 < 4 + 0 := by
  decide
theorem witness_RegisterIndexing :
    Reg.ofIndex 0x75 = some (.repPayload 21) ∧ Reg.ofIndex 0x20 = some (.cmdPayload 0) ∧ Reg.ofIndex 0x0D = some .repLen := by
  decide
theorem witness_PseudoInstructionExpansion : (List.replicate 22 (0 : Byte)).length ≤ 22 ∧ ([] : List Byte).length ≤ 22 := by
  decide
theorem witness_HostWriteStoresTruncated :
    (nextTurn (withHost (.wr 0x35 0x1FF)) = some .host ∧ (0x35 : Byte) ≠ 0x00) ∧
    (nextTurn (withHost (.wr 0x20 7)) = some .host ∧ (0x20 : Byte) ≠ 0x00) ∧
    (nextTurn (withHost (.wr 0x36 7)) = some .host ∧ 0x36 ≤ (0x36 : Byte).toNat ∧ (0x36 : Byte).toNat ≤ 0x3F) ∧
    (nextTurn (withHost (.wr 0x02 7)) = some .host ∧ 0x0E ≤ (0x0E : Byte).toNat ∧ (0x0E : Byte).toNat ≤ 0x1F ∧
      0x56 ≤ (0x5F : Byte).toNat ∧ (0x5F : Byte).toNat ≤ 0x5F ∧ 0x76 ≤ (0xFF : Byte).toNat) := by decide
theorem witness_HostReadHasNoSideEffect :
    nextTurn (withHost (.rd 0x75)) = some .host ∧ (withHost (.rd 0x75)).env.host = .rd 0x75 :: [] := by decide
theorem witness_WaitHoldsWhileBusy :
    nextTurn (withHost .wait) = some .host ∧ (withHost .wait).env.host = .wait :: [] := by decide
theorem witness_ResetRestoresResetState :
    nextTurn (withHost .reset) = some .host ∧ (withHost .reset).env.host = .reset :: [] := by decide
theorem witness_StepRunsHostOperation :
    nextTurn (withHost (.wr 0x00 0x109)) = some .host ∧ (withHost (.wr 0x00 0x109)).env.host = .wr 0x00 0x109 :: [] ∧
    (0x00 : Byte).toNat < 0x40 ∧ (0x3F : Byte).toNat < 0x40 := by decide
theorem witness_StepRunsWireRow :
    (let s := atLastByte .transact 0x06 0x46 [] 0xF1 0x1D;
      nextTurn s = some .core ∧ s.phase = .rxCrcHi ∧ s.opk ≠ .send ∧ s.env.rx = .byte 0x1D :: []) ∧
    (let s := atLastByte .receive 0x06 0x46 [] 0xF1 0x1D;
      nextTurn s = some .core ∧ s.phase = .rxCrcHi ∧ s.opk ≠ .send ∧ s.env.rx = .byte 0x1D :: []) ∧
    (let s := sending .transact [0x3F, 0x00, 0x00, 0x00] 0 [.ok];
      nextTurn s = some .core ∧ s.phase = .tx 0 ∧ s.opk = .transact ∧ s.txbuf = mkType 0b00 0x3F :: [0x00, 0x00, 0x00]) := by
  decide
theorem witness_NopOnlyCompletes :
    State.reset.status.busy = false ∧ (inFlight .receive .rxType []).status.busy = true := by decide
theorem witness_IllegalOpcodeOnlyReports :
    0x0B ≤ (0x0B : Byte).toNat ∧ 0x0B ≤ (0xFF : Byte).toNat ∧ State.reset.status.busy = false := by decide
theorem witness_OverlapLeavesOperationInFlight :
    (let s := { inFlight .transact .rxType [] with env := { Env.reset with host := [.wr 0x00 0x09], sched := [.host] } };
      s.status.busy = true ∧ nextTurn s = some .host ∧ s.env.host = .wr 0x00 0x09 :: []) := by decide
theorem witness_SendIssueLatchesFrame :
    (len22.status.busy = false ∧ len22.cmdLen.toNat ≤ 22) ∧ (len23.status.busy = false ∧ 22 < len23.cmdLen.toNat) := by decide
theorem witness_ReceiveIssueStartsReading : dead22.status.busy = false := by decide
theorem witness_ClassifyWritesClassOut : State.reset.status.busy = false := by decide
theorem witness_ClassifierMatchesClassAndCode : (0x3F : Code) ≠ 0x00 := by decide
theorem witness_TransactIssueChecksThenSends :
    (len23.status.busy = false ∧ 22 < len23.cmdLen.toNat) ∧
    (dead22.status.busy = false ∧ dead22.cmdLen.toNat ≤ 22 ∧ dead22.status.dead = true) ∧
    (len22.status.busy = false ∧ len22.cmdLen.toNat ≤ 22 ∧ len22.status.dead = false) := by decide
theorem witness_SentTypeByteOfTransactAndSend :
    len22.status.busy = false ∧ len22.cmdLen.toNat ≤ 22 ∧ len22.status.dead = false := by decide
theorem witness_PollReportIssueOrder :
    (let s := { State.reset with queue := [⟨0x80, [0x01]⟩] };
      s.status.busy = false ∧ s.queue = ⟨0x80, [0x01]⟩ :: []) ∧
    (dead22.status.busy = false ∧ dead22.queue = [] ∧ dead22.status.dead = true) ∧
    (let s := { State.reset with env := { Env.reset with rxNonEmpty := [true] } };
      s.status.busy = false ∧ s.queue = [] ∧ s.status.dead = false ∧ s.env.rxNonEmpty = true :: []) ∧
    (State.reset.status.busy = false ∧ State.reset.queue = [] ∧ State.reset.status.dead = false ∧
      State.reset.env.rxNonEmpty = []) := by decide
theorem witness_TransmitByteStep :
    (let s := sending .send [0x06, 0x00, 0x97, 0x5B] 3 [.ok];
      nextTurn s = some .core ∧ s.phase = .tx 3 ∧ 3 < s.txbuf.length ∧ (s.opk = .send ∨ s.opk = .transact) ∧
        s.env.tx = .ok :: []) ∧
    (let s := sending .transact [0x06, 0x00, 0x97, 0x5B] 3 [.ok];
      nextTurn s = some .core ∧ s.phase = .tx 3 ∧ 3 < s.txbuf.length ∧ (s.opk = .send ∨ s.opk = .transact) ∧
        s.env.tx = .ok :: []) ∧
    (let s := sending .transact [0x06, 0x00, 0x97, 0x5B] 0 [.fail true];
      nextTurn s = some .core ∧ s.phase = .tx 0 ∧ 0 < s.txbuf.length ∧ (s.opk = .send ∨ s.opk = .transact) ∧
        s.env.tx = .fail true :: []) ∧
    (let s := sending .send [0x06, 0x00, 0x97, 0x5B] 2 [];
      nextTurn s = some .core ∧ s.phase = .tx 2 ∧ 2 < s.txbuf.length ∧ (s.opk = .send ∨ s.opk = .transact) ∧
        s.env.tx = []) := by decide
theorem witness_TxCommandTypeSendsFirstByte :
    (let s := sending .transact [0x06, 0x00, 0x97, 0x5B] 0 [.ok];
      s.phase = .tx 0 ∧ 1 < s.txbuf.length ∧ s.env.tx = .ok :: []) ∧
    (let s := sending .transact [0x06, 0x00, 0x97, 0x5B] 0 [];
      s.phase = .tx 0 ∧ 1 < s.txbuf.length ∧ s.env.tx = []) ∧
    (let s := sending .transact [0x06, 0x00, 0x97, 0x5B] 0 [.fail false];
      s.phase = .tx 0 ∧ 1 < s.txbuf.length ∧ s.env.tx = .fail false :: []) := by decide
theorem witness_ReaderByteStep :
    (let s := inFlight .receive .rxType [.byte 0x46];
      nextTurn s = some .core ∧ s.opk ≠ .send ∧ s.env.rx = .byte 0x46 :: [] ∧ s.phase = .rxType) ∧
    (let s := inFlight .transact .rxLen [.byte 22];
      nextTurn s = some .core ∧ s.opk ≠ .send ∧ s.env.rx = .byte 22 :: [] ∧ s.phase = .rxLen ∧ (22 : Byte).toNat ≤ 22) ∧
    (let s := inFlight .transact .rxLen [.byte 0];
      nextTurn s = some .core ∧ s.opk ≠ .send ∧ s.env.rx = .byte 0 :: [] ∧ s.phase = .rxLen ∧ (0 : Byte).toNat ≤ 22) ∧
    (let s := { inFlight .pollReport (.rxPay 21) [.byte 9] with rLen := 22, rBuf := List.replicate 21 0 };
      nextTurn s = some .core ∧ s.opk ≠ .send ∧ s.env.rx = .byte 9 :: [] ∧ s.phase = .rxPay 21) ∧
    (let s := inFlight .receive .rxCrcLo [.byte 0xF1];
      nextTurn s = some .core ∧ s.opk ≠ .send ∧ s.env.rx = .byte 0xF1 :: [] ∧ s.phase = .rxCrcLo) := by decide
theorem witness_ReaderRejectsOversizedLength :
    (let s := inFlight .receive .rxLen [.byte 23];
      nextTurn s = some .core ∧ s.phase = .rxLen ∧ s.env.rx = .byte 23 :: [] ∧ 22 < (23 : Byte).toNat ∧ s.opk = .receive) ∧
    (let s := inFlight .transact .rxLen [.byte 255];
      nextTurn s = some .core ∧ s.phase = .rxLen ∧ s.env.rx = .byte 255 :: [] ∧ 22 < (255 : Byte).toNat ∧ s.opk = .transact) ∧
    (let s := inFlight .pollReport .rxLen [.byte 23];
      nextTurn s = some .core ∧ s.phase = .rxLen ∧ s.env.rx = .byte 23 :: [] ∧ 22 < (23 : Byte).toNat ∧
        s.opk = .pollReport) := by decide
theorem witness_ReaderFailureOutcome :
    (let s := inFlight .receive .rxCrcHi [.fail];
      nextTurn s = some .core ∧ s.env.rx = .fail :: [] ∧ s.phase = .rxCrcHi ∧ s.opk = .receive) ∧
    (let s := inFlight .transact .rxType [.fail];
      nextTurn s = some .core ∧ s.env.rx = .fail :: [] ∧ s.phase = .rxType ∧ s.opk = .transact) ∧
    (let s := inFlight .transact .rxCrcLo [.fail];
      nextTurn s = some .core ∧ s.env.rx = .fail :: [] ∧ s.phase = .rxCrcLo ∧ s.opk = .transact) ∧
    (let s := inFlight .pollReport .rxLen [.fail];
      nextTurn s = some .core ∧ s.env.rx = .fail :: [] ∧ s.phase = .rxLen ∧ s.opk = .pollReport) := by decide
theorem witness_CoreHoldsWithoutAnswer :
    (let s := inFlight .transact (.rxPay 0) [];
      nextTurn s = some .core ∧ s.opk ≠ .send ∧ s.env.rx = [] ∧ s.phase = .rxPay 0) := by decide
theorem witness_ResponseRowsEndTransaction :
    (let s := frameRead .transact 0x06 0x46 [] 0xF1 0x1D;
      s.phase = .rxCrcHi ∧ s.opk = .transact ∧ frameCrc (mkType 0b01 0x06) s.rBuf = crcJoin s.rLo s.rHi) ∧
    (let s := frameRead .transact 0x06 0xC6 [0x7E] 0xAE 0x99;
      s.phase = .rxCrcHi ∧ s.opk = .transact ∧ frameCrc (mkType 0b11 0x06) s.rBuf = crcJoin s.rLo s.rHi) := by
  decide +kernel
theorem witness_ReportRowQueuesOrDrops :
    (let s := frameRead .transact 0x06 0x80 [0x05] 0x55 0x84;
      s.phase = .rxCrcHi ∧ s.opk = .transact ∧ frameCrc (mkType 0b10 0x00) s.rBuf = crcJoin s.rLo s.rHi) := by
  decide +kernel
theorem witness_ReportHandlingForAllParameters :
    (testParams none).reportDecode (typeCode 0x81) [0x01] = none ∧
    ((testParams none).reportDecode (typeCode 0x80) [12] = some 12 ∧ (testParams none).qdepth = none) ∧
    ((testParams (some 1)).reportDecode (typeCode 0x80) [1] = some 1 ∧ (testParams (some 1)).qdepth = some 1 ∧
      State.reset.queue.length < 1) ∧
    ((testParams (some 0)).reportDecode (typeCode 0x80) [1] = some 1 ∧ (testParams (some 0)).qdepth = some 0 ∧
      State.reset.queue.length = 0) := by decide +kernel
theorem witness_ForeignRowsLogAndContinue :
    (let s := frameRead .transact 0x06 0x47 [] 0x29 0x04;
      s.phase = .rxCrcHi ∧ s.opk = .transact ∧ frameCrc (mkType 0b01 0x07) s.rBuf = crcJoin s.rLo s.rHi) ∧
    (let s := frameRead .transact 0x07 0xC6 [] 0x3D 0x91;
      s.phase = .rxCrcHi ∧ s.opk = .transact ∧ frameCrc (mkType 0b11 0x06) s.rBuf = crcJoin s.rLo s.rHi) ∧
    (let s := frameRead .transact 0x06 0x06 [] 0x97 0x5B;
      s.phase = .rxCrcHi ∧ s.opk = .transact ∧ frameCrc (mkType 0b00 0x06) s.rBuf = crcJoin s.rLo s.rHi) := by
  decide +kernel
theorem witness_CrcMismatchDesynchronises :
    (let s := frameRead .transact 0x06 0x46 [0x00, 0x02] 0x81 0x2E;
      s.phase = .rxCrcHi ∧ s.opk = .transact ∧ frameCrc 0x46 s.rBuf ≠ crcJoin s.rLo s.rHi) := by decide +kernel
theorem witness_FrameDeliveredByReceive :
    (let s := frameRead .receive 0 0x46 [] 0xF1 0x1D;
      s.phase = .rxCrcHi ∧ s.opk = .receive ∧ (List.replicate 22 (0 : Byte)).length ≤ 22) := by decide
theorem witness_FrameEndsPollReport :
    (let s := frameRead .pollReport 0 0x46 [] 0xF1 0x1D;
      s.phase = .rxCrcHi ∧ s.opk = .pollReport ∧ (List.replicate 22 (0 : Byte)).length ≤ 22) := by decide
theorem witness_FrameAgreesWithReceivedTypeRow :
    (let s := frameRead .transact 0x06 0x46 [] 0xF1 0x1D;
      s.phase = .rxCrcHi ∧ s.opk = .transact) := by decide
theorem witness_WireRowsOutsideTheirSpace :
    (State.reset.phase ≠ .rxCrcHi ∧ State.reset.phase ≠ .tx 0) ∧
    (let s := frameRead .receive 0 0x46 [] 0xF1 0x1D;
      s.phase = .rxCrcHi ∧ s.opk ≠ .transact) ∧
    (let s := frameRead .send 0 0x46 [] 0xF1 0x1D;
      s.phase = .rxCrcHi ∧ s.opk = .send) := by decide

/-- The block after reset with one write to OP to make, no turn listed, and transports that answer. -/
def readyToRun (opcode : Nat) (tx : List TxAnswer) (rx : List RxAnswer) : State :=
  { State.reset with env := { Env.reset with host := [.wr 0x00 opcode], tx := tx, rx := rx } }

theorem witness_SendRunTransmitsFrame :
    (let s := { readyToRun 0x06 (List.replicate 26 .ok) [] with cmdLen := 22 };
      s.status.busy = false ∧ s.phase = .idle ∧ s.cmdLen.toNat ≤ 22 ∧ s.env.sched = [] ∧
      s.env.host = .wr 0x00 0x06 :: [] ∧ s.env.tx = List.replicate (4 + s.cmdLen.toNat) .ok ++ []) := by decide
theorem witness_ReceiveRunDecodesFrame :
    (let s := readyToRun 0x07 [] ((frameBytes 0x4A (List.replicate 22 7) 0x1234).map .byte ++ [.fail]);
      s.status.busy = false ∧ s.phase = .idle ∧ (List.replicate 22 (7 : Byte)).length ≤ 22 ∧ s.env.sched = [] ∧
      s.env.host = .wr 0x00 0x07 :: [] ∧
      s.env.rx = (frameBytes 0x4A (List.replicate 22 7) 0x1234).map .byte ++ [.fail]) := by decide +kernel
theorem witness_TransactRunReturnsResponse :
    (let s := withCmd 0xC6 [0x10, 0x20]
        (readyToRun 0x09 (List.replicate 6 .ok) ((encodeFrame (mkType 0b11 0x06) [0x7E]).map .byte));
      s.status.busy = false ∧ s.phase = .idle ∧ s.status.dead = false ∧ s.cmdLen.toNat ≤ 22 ∧
      ([0x7E] : List Byte).length ≤ 22 ∧ s.env.sched = [] ∧ s.env.host = .wr 0x00 0x09 :: [] ∧
      s.env.tx = List.replicate (4 + s.cmdLen.toNat) .ok ++ [] ∧
      s.env.rx = (encodeFrame (mkType 0b11 s.cmdCode) [0x7E]).map .byte ++ []) := by decide +kernel
theorem witness_TransactAbsorbsReportsAndForeign :
    (let s := { State.reset with
        status := { Status.reset with busy := true }
        opk := .transact
        phase := .rxType
        scode := 0x06
        env := { Env.reset with rx := (encodeFrame 0x80 [0x05] ++ encodeFrame 0x47 []).map .byte } };
      let fs : List (Byte × List Byte) := [(0x80, [0x05]), (0x47, [])];
      s.phase = .rxType ∧ s.opk = .transact ∧ s.env.sched = [] ∧
      (∀ f ∈ fs, f.2.length ≤ 22 ∧ (classifyType f.1 s.scode = .report ∨ classifyType f.1 s.scode = .foreign)) ∧
      s.env.rx = ((fs.map fun f => encodeFrame f.1 f.2).flatten).map .byte ++ []) := by decide +kernel

/-- A RECEIVE that reads the last payload byte of a frame: it meets the invariant. -/
def receiving : State :=
  { inFlight .receive (.rxPay 1) [.byte 0x02] with rType := 0x46, rLen := 2, rBuf := [0x01] }

theorem receiving_inv : Inv receiving where
  busy_iff := by decide
  rsp_len := by decide
  rsp_tail := by decide
  rep_len := by decide
  rep_tail := by decide
  rep_valid := fun h => absurd h (by decide)
  queue_entries := fun e h => absurd h (by simp [receiving, inFlight, State.reset])
  queue_cap := fun k _ => Nat.zero_le k
  alive := fun _ h => absurd h (by decide)
  poll_empty := fun _ _ => rfl
  hidden := by
    refine ⟨?_, ?_, ?_, ?_⟩ <;> decide

theorem witness_StepKeepsInvariant : Inv receiving ∧ ∃ t, step receiving = .next t := ⟨receiving_inv, _, rfl⟩
theorem witness_StepNeverStops : Inv receiving := receiving_inv
theorem witness_ResultsChangeOnlyAtCompletion :
    ∃ t, step receiving = .next t ∧ receiving.status.busy = true ∧ t.status.busy = true :=
  ⟨_, rfl, by decide, by decide⟩
theorem witness_StickyBitsSetAndKept :
    ∃ t, step (inFlight .transact .rxLen [.fail]) = .next t ∧ ¬Claims.HostResets (inFlight .transact .rxLen [.fail]) ∧
      (inFlight .transact .rxLen [.fail]).status.dead = false ∧ t.status.dead = true :=
  ⟨_, rfl, by unfold Claims.HostResets; decide, by decide, by decide⟩

/-- A POLL_REPORT to be issued with one report queued. -/
def pollQueued : State := { withHost (.wr 0x00 0x0A) with queue := [⟨0x80, [0x01]⟩] }

theorem witness_QueueChangesOnlyByEngine :
    ∃ t, step pollQueued = .next t ∧ ¬Claims.HostResets pollQueued ∧ t.queue ≠ pollQueued.queue :=
  ⟨_, rfl, by unfold Claims.HostResets; decide, by decide⟩
theorem witness_DiagnosticTraceAppendOnly :
    ∃ t, step pollQueued = .next t ∧ ¬Claims.HostResets pollQueued :=
  ⟨_, rfl, by unfold Claims.HostResets; decide⟩
theorem witness_OneTransferInOrderPerStep :
    ∃ t, step (sending .send [0x06, 0x00, 0x97, 0x5B] 0 [.ok]) = .next t ∧ t.env.sent = [0x06] :=
  ⟨_, rfl, by decide⟩
theorem witness_OperandsLatchedAtIssue : receiving.phase ≠ .idle := by decide

end Sys2Proof.Tests
end

section
/-! The core's turn as a function of the state: what the rows of the wire do there is what R145, R152, R175 and R180 say of a
frame. -/

namespace Sys2Proof.Machine

/-! ### The rows of a received type byte -/

/-- The row of a received type byte (30_encoding.md R92) beside its class (42_engine.md R170). -/
theorem decodeReceivedType_cases (sent : Code) (t : Byte) :
    (typeClass t = 1#2 ∧ classifyType t sent = .normal ∧ decodeReceivedType sent t = .rxNormal (typeCode t)) ∨
    (typeClass t = 3#2 ∧ classifyType t sent = .error ∧ decodeReceivedType sent t = .rxError (typeCode t)) ∨
    (typeClass t = 2#2 ∧ classifyType t sent = .report ∧ decodeReceivedType sent t = .rxReport (typeCode t)) ∨
    (typeClass t = 1#2 ∧ classifyType t sent = .foreign ∧ decodeReceivedType sent t = .rxForeign01 (typeCode t)) ∨
    (typeClass t = 3#2 ∧ classifyType t sent = .foreign ∧ decodeReceivedType sent t = .rxForeign11 (typeCode t)) ∨
    (typeClass t = 0#2 ∧ classifyType t sent = .foreign ∧ decodeReceivedType sent t = .rxForeign00 (typeCode t)) := by
  have classes : ∀ c : WireClass, c = 0#2 ∨ c = 1#2 ∨ c = 2#2 ∨ c = 3#2 := by decide
  cases hk : typeCode t == sent <;> rcases classes (typeClass t) with hc | hc | hc | hc <;>
    simp [decodeReceivedType, classifyType, hc, hk]

/-- Only a type byte of class 0b10 is a report (42_engine.md R170). -/
theorem typeClass_of_report {sent : Code} {t : Byte} (h : classifyType t sent = .report) : typeClass t = 0b10 := by
  rcases decodeReceivedType_cases sent t with ⟨hc, hk, -⟩ | ⟨hc, hk, -⟩ | ⟨hc, hk, -⟩ | ⟨hc, hk, -⟩ | ⟨hc, hk, -⟩ |
    ⟨hc, hk, -⟩ <;> simp_all

theorem mkType_of_class {c : WireClass} {t : Byte} (h : typeClass t = c) : mkType c (typeCode t) = t := by
  rw [← h, mkType_typeClass_typeCode]

/-- At the last byte of a frame in a TRANSACT the row of the type byte handles the frame as `process` does
(42_engine.md R176). -/
theorem exec_decodeReceivedType {s : State} (hp : s.phase = .rxCrcHi) (ho : s.opk = .transact) (t : Byte) :
    exec (decodeReceivedType s.scode t) s = .next (processFrame Config.params t s.rBuf s.latchedCrc s) := by
  rcases decodeReceivedType_cases s.scode t with ⟨hc, hk, hd⟩ | ⟨hc, hk, hd⟩ | ⟨hc, hk, hd⟩ | ⟨hc, hk, hd⟩ |
    ⟨hc, hk, hd⟩ | ⟨hc, hk, hd⟩
  all_goals
    have ht := mkType_of_class hc
    simp [hd, exec, execRxNormal, execRxError, execRxReport, execRxForeign01, execRxForeign11, execRxForeign00,
      receivedRow, processFrame, checkedFrame, hp, ho, hk, ht]

/-- Whatever is in flight, the row that the last byte of a frame runs gives the frame to the operation. -/
theorem exec_receivedInstr {s : State} (hp : s.phase = .rxCrcHi) :
    exec (receivedInstr s) s = .next (gotFrame Config.params s.rType s.rBuf s.latchedCrc s) := by
  by_cases ho : s.opk = .transact
  · simp [receivedInstr, ho, exec_decodeReceivedType hp ho, gotFrame]
  · simp [receivedInstr, ho, exec, execFrame, hp]

/-! ### The core's turn as a function -/

/-- A byte `b` answered at a reader's phase: at the last byte of a frame the operation in flight takes the frame. -/
def coreTakes (b : Byte) (s : State) : State :=
  if s.phase = .rxCrcHi then
    gotFrame Config.params s.rType s.rBuf (crcJoin s.rLo b) { s.takeByte b with rHi := b }
  else (s.takeByte b).rxByte b

/-- What the core's turn makes of a state that is not stray. -/
def coreMove (s : State) : State :=
  match s.phase with
  | .idle => s
  | .tx i => s.txByte i (s.txbuf.getD i 0)
  | _ =>
    match s.env.rx with
    | [] => s
    | .fail :: _ => s.popRx.rxFail
    | .byte b :: _ => coreTakes b s

theorem coreByte_eq (b : Byte) (s : State) : coreByte b s = .next (coreTakes b s) := by
  unfold coreByte coreTakes
  split
  · rename_i hp
    have hr : (s.takeByte b).rxByte b = { s.takeByte b with rHi := b } := by simp [State.rxByte, hp]
    simp only [hr]
    rw [exec_receivedInstr (by simpa using hp)]
    rfl
  · rfl

theorem coreTurn_eq (s : State) :
    coreTurn s = if strayPhase s then .fault .strayPhase else .next (coreMove s) := by
  by_cases hs : strayPhase s = true
  · simp [coreTurn, hs]
  · have hs := Bool.eq_false_iff.mpr hs
    cases hp : s.phase
    case idle => simp [coreTurn, coreMove, hs, hp]
    case tx i => simp [coreTurn_tx hs hp, coreMove, hs, hp]
    all_goals
      rcases hr : s.env.rx with _ | ⟨b | _, rest⟩ <;> simp [coreTurn, coreMove, hs, hp, hr, coreByte_eq]

end Sys2Proof.Machine
end

section
/-! What a turn of either agent can do to the state, as the list of its effects. -/

namespace Sys2Proof.Machine

/-! ### What a core's turn can do -/

/-- How an operation that reads a frame ends in a failure (41_codec.md R152; 42_engine.md R175, R180, R184). -/
inductive FailureEffect (s : State) : State → Prop
  | completes (r : ResultCode) (ho : s.opk ≠ .pollReport) : FailureEffect s (s.finish r)
  | pollCompletes (ho : s.opk = .pollReport) : FailureEffect s (s.finishPoll false .ioError)
  | desync (ho : s.opk = .transact) : FailureEffect s (s.setDead.finish .desync)
  | pollDesync (ho : s.opk = .pollReport) : FailureEffect s (s.setDead.finishPoll false .desync)

theorem State.desync_effect {s : State} (ho : s.opk = .transact ∨ s.opk = .pollReport) : FailureEffect s s.desync := by
  rcases ho with ho | ho <;> simp only [State.desync, ho]
  · exact .desync ho
  · exact .pollDesync ho

theorem State.ioFail_effect {s : State} (ho : s.opk ≠ .send) : FailureEffect s s.ioFail := by
  cases hk : s.opk <;> simp only [State.ioFail, hk]
  case send => exact absurd hk ho
  case pollReport => exact .pollCompletes hk
  all_goals exact .completes _ (by simp [hk])

theorem State.truncated_effect {s : State} (ho : s.opk ≠ .send) : FailureEffect s s.truncated := by
  cases hk : s.opk <;> simp only [State.truncated, hk]
  case send => exact absurd hk ho
  case receive => exact .completes _ (by simp [hk])
  all_goals exact State.desync_effect (by simp [hk])

theorem State.badLength_effect {s : State} (ho : s.opk ≠ .send) : FailureEffect s s.badLength := by
  cases hk : s.opk <;> simp only [State.badLength, hk]
  case send => exact absurd hk ho
  case receive => exact .completes _ (by simp [hk])
  all_goals exact State.desync_effect (by simp [hk])

/-- What an operation does with a whole frame (41_codec.md R152; 42_engine.md R172 to R181). -/
inductive FrameEffect (t : Byte) (p : List Byte) (c : Word) (s : State) : State → Prop
  /-- the frame's CRC is wrong -/
  | corrupt {s' : State} (hf : FailureEffect s s') : FrameEffect t p c s s'
  | delivered (r : ResultCode) (ho : s.opk ≠ .pollReport) : FrameEffect t p c s ((s.writeRsp t p c).finish r)
  /-- a foreign frame or a report that the decoder refuses, inside a TRANSACT -/
  | logged (e : DiagEvent) (ho : s.opk = .transact) : FrameEffect t p c s { s.log e with phase := .rxType }
  | overflow (e : DiagEvent) (ho : s.opk = .transact) (hfull : queueFull Config.params s = true) :
    FrameEffect t p c s { (s.log e).setQovf with phase := .rxType }
  | queued (ho : s.opk = .transact) (hroom : queueFull Config.params s = false) (hc : typeClass t = 0b10)
    (hr : (Config.reportDecode (typeCode t) p).isSome) :
    FrameEffect t p c s { s with queue := s.queue ++ [⟨t, p⟩], phase := .rxType }
  | polled (ho : s.opk = .pollReport) (hc : typeClass t = 0b10) (hr : (Config.reportDecode (typeCode t) p).isSome) :
    FrameEffect t p c s ((s.writeRep t p).finishPoll true .ok)
  /-- a frame that is no report that the decoder accepts, inside a POLL_REPORT -/
  | pollLogged (e : DiagEvent) (ho : s.opk = .pollReport) :
    FrameEffect t p c s ((s.log e).finishPoll false .noReport)

theorem takeReport_effect {t : Byte} {p : List Byte} {c : Word} {s : State} (ho : s.opk = .transact)
    (hc : typeClass t = 0b10) : FrameEffect t p c s (takeReport Config.params t p s) := by
  rcases takeReport_cases Config.params t p s with ⟨-, e⟩ | ⟨r, hr, e⟩ <;> rw [e]
  · exact .logged _ ho
  · rcases enqueue_cases Config.params t p s with ⟨hq, e⟩ | ⟨hq, e⟩ <;> rw [e]
    · exact .overflow _ ho hq
    · exact .queued ho hq hc (Option.isSome_of_eq_some hr)

theorem processFrame_effect {t : Byte} {p : List Byte} {c : Word} {s : State} (ho : s.opk = .transact) :
    FrameEffect t p c s (processFrame Config.params t p c s) := by
  have hne : s.opk ≠ .pollReport := by simp [ho]
  rcases processFrame_cases Config.params t p c s with ⟨-, e⟩ | ⟨-, -, e⟩ | ⟨-, -, e⟩ | ⟨-, hk, e⟩ | ⟨-, -, e⟩ <;> rw [e]
  · exact .corrupt (State.desync_effect (.inl ho))
  · exact .delivered _ hne
  · exact .delivered _ hne
  · exact takeReport_effect ho (typeClass_of_report hk)
  · exact .logged _ ho

theorem pollProcess_effect {t : Byte} {p : List Byte} {c : Word} {s : State} (ho : s.opk = .pollReport) :
    FrameEffect t p c s (pollProcess Config.params t p c s) := by
  rcases pollProcess_cases Config.params t p c s with ⟨-, e⟩ | ⟨-, hc, ⟨r, hr⟩, e⟩ | ⟨-, -, -, e⟩ | ⟨-, -, e⟩ <;> rw [e]
  · exact .corrupt (State.desync_effect (.inr ho))
  · exact .polled ho hc (Option.isSome_of_eq_some hr)
  · exact .pollLogged _ ho
  · exact .pollLogged _ ho

theorem gotFrame_effect {t : Byte} {p : List Byte} {c : Word} {s : State} (ho : s.opk ≠ .send) :
    FrameEffect t p c s (gotFrame Config.params t p c s) := by
  cases hk : s.opk <;> simp only [gotFrame, hk]
  case send => exact absurd hk ho
  case receive => exact .delivered _ (by simp [hk])
  case transact => exact processFrame_effect hk
  case pollReport => exact pollProcess_effect hk

/-- What the core's turn can do (41_codec.md R145, R153; 42_engine.md R175 to R181). -/
inductive CoreEffect (s : State) : State → Prop
  /-- Idle, or the transport does not answer -/
  | holds : CoreEffect s s
  | sends {i : Nat} (b : Byte) (hp : s.phase = .tx i) (hi : i + 1 < s.txbuf.length) :
    CoreEffect s { s.popTx.putWire b with phase := .tx (i + 1) }
  | sendCompletes {i : Nat} (b : Byte) (hp : s.phase = .tx i) (ho : s.opk = .send) :
    CoreEffect s ((s.popTx.putWire b).finish .ok)
  | commandSent {i : Nat} (b : Byte) (hp : s.phase = .tx i) (ho : s.opk = .transact) :
    CoreEffect s { s.popTx.putWire b with phase := .rxType }
  | sendFails {i : Nat} (e : Env) (hp : s.phase = .tx i) : CoreEffect s ({ s with env := e }.finish .ioError)
  | readFails {t : State} (hf : FailureEffect s.popRx t) : CoreEffect s t
  | badLength {t : State} (b : Byte) (hp : s.phase = .rxLen) (hf : FailureEffect { s.takeByte b with rLen := b } t) :
    CoreEffect s t
  | readsType (b : Byte) (hp : s.phase = .rxType) : CoreEffect s { s.takeByte b with rType := b, phase := .rxLen }
  | readsLength (b : Byte) (hp : s.phase = .rxLen) (hb : b.toNat ≤ maxPayload) :
    CoreEffect s { s.takeByte b with rLen := b, rBuf := [], phase := if b = 0 then .rxCrcLo else .rxPay 0 }
  | readsPayload {j : Nat} (b : Byte) (hp : s.phase = .rxPay j) :
    CoreEffect s { s.takeByte b with
      rBuf := s.rBuf ++ [b], phase := if j + 1 < s.rLen.toNat then .rxPay (j + 1) else .rxCrcLo }
  | readsCrcLow (b : Byte) (hp : s.phase = .rxCrcLo) : CoreEffect s { s.takeByte b with rLo := b, phase := .rxCrcHi }
  | readsFrame {t : State} (b : Byte) (hp : s.phase = .rxCrcHi)
    (hf : FrameEffect s.rType s.rBuf (crcJoin s.rLo b) { s.takeByte b with rHi := b } t) : CoreEffect s t

theorem State.sentAll_send {s : State} (ho : s.opk = .send) : s.sentAll = s.finish .ok := by
  simp only [State.sentAll, ho]

theorem State.sentAll_transact {s : State} (ho : s.opk = .transact) : s.sentAll = { s with phase := .rxType } := by
  simp only [State.sentAll, ho]

theorem State.txByte_effect {s : State} {i : Nat} {b : Byte} (hp : s.phase = .tx i)
    (ho : s.opk = .send ∨ s.opk = .transact) : CoreEffect s (s.txByte i b) := by
  rcases s.txByte_cases i b with ⟨-, e⟩ | ⟨_, -, hi, e⟩ | ⟨_, -, -, e⟩ | ⟨reached, _, -, e⟩ <;> rw [e]
  · exact .holds
  · exact .sends b hp hi
  · rcases ho with ho | ho
    · rw [State.sentAll_send (s := s.popTx.putWire b) ho]
      exact .sendCompletes b hp ho
    · rw [State.sentAll_transact (s := s.popTx.putWire b) ho]
      exact .commandSent b hp ho
  · cases reached <;> exact .sendFails _ hp

theorem State.rxFail_effect {s : State} (ho : s.opk ≠ .send) (hi : s.phase ≠ .idle) (ht : ∀ i, s.phase ≠ .tx i) :
    FailureEffect s s.rxFail := by
  cases hp : s.phase <;> simp only [State.rxFail, hp]
  case idle => exact absurd hp hi
  case tx i => exact absurd hp (ht i)
  case rxType => exact State.ioFail_effect ho
  all_goals exact State.truncated_effect ho

theorem coreTakes_frame {s : State} (hp : s.phase = .rxCrcHi) (b : Byte) : coreTakes b s =
    gotFrame Config.params s.rType s.rBuf (crcJoin s.rLo b) { s.takeByte b with rHi := b } := if_pos hp

theorem coreTakes_inside {s : State} (hp : s.phase ≠ .rxCrcHi) (b : Byte) : coreTakes b s = (s.takeByte b).rxByte b :=
  if_neg hp

theorem State.rxByte_rxType {s : State} (hp : s.phase = .rxType) (b : Byte) :
    s.rxByte b = { s with rType := b, phase := .rxLen } := by
  simp only [State.rxByte, hp]

theorem State.rxByte_badLength {s : State} (hp : s.phase = .rxLen) {b : Byte} (hb : maxPayload < b.toNat) :
    s.rxByte b = { s with rLen := b }.badLength := by
  simp only [State.rxByte, hp, hb, if_true]

theorem State.rxByte_rxLen {s : State} (hp : s.phase = .rxLen) {b : Byte} (hb : ¬maxPayload < b.toNat) :
    s.rxByte b = { s with rLen := b, rBuf := [], phase := if b = 0 then .rxCrcLo else .rxPay 0 } := by
  simp only [State.rxByte, hp, hb, if_false]

theorem State.rxByte_rxPay {s : State} {j : Nat} (hp : s.phase = .rxPay j) (b : Byte) : s.rxByte b =
    { s with rBuf := s.rBuf ++ [b], phase := if j + 1 < s.rLen.toNat then .rxPay (j + 1) else .rxCrcLo } := by
  simp only [State.rxByte, hp]

theorem State.rxByte_rxCrcLo {s : State} (hp : s.phase = .rxCrcLo) (b : Byte) :
    s.rxByte b = { s with rLo := b, phase := .rxCrcHi } := by
  simp only [State.rxByte, hp]

theorem coreTakes_effect {s : State} {b : Byte} (ho : s.opk ≠ .send) (hi : s.phase ≠ .idle) (ht : ∀ i, s.phase ≠ .tx i) :
    CoreEffect s (coreTakes b s) := by
  cases hp : s.phase
  case rxCrcHi =>
    rw [coreTakes_frame hp]
    exact .readsFrame b hp (gotFrame_effect ho)
  all_goals rw [coreTakes_inside (by simp [hp])]
  case idle => exact absurd hp hi
  case tx i => exact absurd hp (ht i)
  case rxType =>
    rw [State.rxByte_rxType (s := s.takeByte b) hp]
    exact .readsType b hp
  case rxLen =>
    by_cases hb : maxPayload < b.toNat
    · rw [State.rxByte_badLength (s := s.takeByte b) hp hb]
      exact .badLength b hp (State.badLength_effect ho)
    · rw [State.rxByte_rxLen (s := s.takeByte b) hp hb]
      exact .readsLength b hp (Nat.le_of_not_lt hb)
  case rxPay j =>
    rw [State.rxByte_rxPay (s := s.takeByte b) hp]
    exact .readsPayload b hp
  case rxCrcLo =>
    rw [State.rxByte_rxCrcLo (s := s.takeByte b) hp]
    exact .readsCrcLow b hp

/-- A phase that is not stray is one that the operation in flight has (10_state.md R40). -/
theorem phase_of_not_stray {s : State} (h : strayPhase s = false) :
    s.phase = .idle ∨ (∃ i, s.phase = .tx i ∧ (s.opk = .send ∨ s.opk = .transact)) ∨
    (s.phase ≠ .idle ∧ (∀ i, s.phase ≠ .tx i) ∧ s.opk ≠ .send) := by
  cases hp : s.phase <;> simp only [strayPhase, hp] at h
  case idle => exact .inl rfl
  case tx i =>
    refine .inr (.inl ⟨i, rfl, ?_⟩)
    cases hk : s.opk <;> simp [hk] at h ⊢
  all_goals exact .inr (.inr ⟨nofun, nofun, of_decide_eq_false h⟩)

theorem coreMove_effect {s : State} (h : strayPhase s = false) : CoreEffect s (coreMove s) := by
  rcases phase_of_not_stray h with hp | ⟨i, hp, ho⟩ | ⟨hi, ht, ho⟩
  · simp only [coreMove, hp]
    exact .holds
  · simp only [coreMove, hp]
    exact State.txByte_effect hp ho
  · unfold coreMove
    split
    · exact .holds
    · exact absurd ‹_› (ht _)
    · split
      · exact .holds
      · exact .readFails (State.rxFail_effect ho hi ht)
      · exact coreTakes_effect ho hi ht

theorem coreTurn_effect {s t : State} (h : coreTurn s = .next t) : CoreEffect s t := by
  rw [coreTurn_eq] at h
  split at h
  · cases h
  · cases h
    exact coreMove_effect (Bool.eq_false_iff.mpr ‹_›)

/-! ### What a host's turn can do -/

theorem State.askedRxNonEmpty_eq (s : State) : ∃ e, s.askedRxNonEmpty = { s with env := e } := by
  unfold State.askedRxNonEmpty
  split <;> exact ⟨_, rfl⟩

theorem decodeOperation_space (b : Byte) : (decodeOperation b).space 0 = .operation := by
  unfold decodeOperation
  split <;> rfl

theorem decodeOperation_eq_pollReport {b : Byte} (h : decodeOperation b = .pollReport) : b.toNat = 0x0A := by
  unfold decodeOperation at h
  split at h
  case h_11 hb => exact hb
  all_goals cases h

/-- What an operation can do where it is issued, the core being Idle (60_exceptions.md R215). -/
inductive IssueEffect (s : State) : Instr → State → Prop
  /-- a completion in the step of the issue -/
  | atOnce {i : Instr} (acc out : Word) (cls : BitVec 2) (ok : Bool) (r : ResultCode) :
    IssueEffect s i ({ s with
      crcAcc := acc, crcOut := out, classOut := cls, status := { s.status with crcOk := ok } }.finish r)
  | send (hl : s.cmdLenIllegal = false) :
    IssueEffect s .send (s.startWrite .send (encodeFrame s.cmdType s.cmdBytes))
  | receive : IssueEffect s .receive (s.begin .receive .rxType)
  | transact (hl : s.cmdLenIllegal = false) (hd : s.status.dead = false) :
    IssueEffect s .transact
      { s.startWrite .transact (encodeFrame (mkType 0b00 s.cmdCode) s.cmdBytes) with scode := s.cmdCode }
  | dequeues {e : QEntry} {rest : List QEntry} (hq : s.queue = e :: rest) :
    IssueEffect s .pollReport (({ s with queue := rest }.writeRep e.ftype e.payload).finishPoll true .ok)
  | pollCompletes (e : Env) (r : ResultCode) (hq : s.queue = []) :
    IssueEffect s .pollReport ({ s with env := e }.finishPoll false r)
  | polls (e : Env) (hq : s.queue = []) (hd : s.status.dead = false) :
    IssueEffect s .pollReport ({ s with env := e }.begin .pollReport .rxType)

theorem IssueEffect.completes (s : State) (i : Instr) (r : ResultCode) : IssueEffect s i (s.finish r) :=
  .atOnce s.crcAcc s.crcOut s.classOut s.status.crcOk r

theorem execPollReport_effect {s t : State} (hb : s.status.busy = false) (h : execPollReport s = .next t) :
    IssueEffect s .pollReport t := by
  simp only [execPollReport, State.issue_idle hb] at h
  obtain ⟨e, he⟩ := s.askedRxNonEmpty_eq
  split at h
  · cases h; exact .dequeues ‹_›
  · split at h
    · cases h; exact .pollCompletes s.env _ ‹_›
    · split at h <;> cases h <;> rw [he]
      · exact .polls e ‹_› (Bool.eq_false_iff.mpr ‹_›)
      · exact .pollCompletes e _ ‹_›

/-- A host operation is refused with the overlap fault while BUSY, and issued otherwise (10_state.md R25). -/
theorem exec_operation_cases {i : Instr} (hi : i.space 0 = .operation) {s t : State} (h : exec i s = .next t) :
    (s.status.busy = true ∧ t = s.setOverlap) ∨ (s.status.busy = false ∧ IssueEffect s i t) := by
  cases hb : s.status.busy
  case true =>
    refine .inl ⟨rfl, ?_⟩
    cases i <;> cases hi <;> obtain rfl := Host.Outcome.next.inj h <;> exact State.issue_busy hb _
  case false =>
    refine .inr ⟨rfl, ?_⟩
    cases i <;> cases hi
    case pollReport => exact execPollReport_effect hb h
    all_goals
      obtain rfl := Host.Outcome.next.inj h
      rw [State.issue_idle hb]
    case send =>
      split
      · exact .completes s _ _
      · exact .send (Bool.eq_false_iff.mpr ‹_›)
    case receive => exact .receive
    case transact =>
      split
      · exact .completes s _ _
      · split
        · exact .completes s _ _
        · exact .transact (Bool.eq_false_iff.mpr ‹_›) (Bool.eq_false_iff.mpr ‹_›)
    case crcFrame =>
      split
      · exact .completes s _ _
      · exact .atOnce s.crcAcc _ s.classOut s.status.crcOk _
    case crcInit => exact .atOnce _ s.crcOut s.classOut s.status.crcOk _
    case crcByte => exact .atOnce _ s.crcOut s.classOut s.status.crcOk _
    case crcFinal => exact .atOnce s.crcAcc _ s.classOut s.status.crcOk _
    case checkCrc => exact .atOnce s.crcAcc s.crcOut s.classOut _ _
    case classify => exact .atOnce s.crcAcc s.crcOut _ s.status.crcOk _
    case nop | illegal => exact .completes s _ _

/-- What the host's turn can do. -/
inductive HostEffect (s : State) : State → Prop
  /-- no write of OP and no reset: the operand registers, OP and the agents alone can change -/
  | operands (op ty n din : Byte) (p : Vector Byte 22) (e : Env) :
    HostEffect s { s with op := op, cmdType := ty, cmdLen := n, crcDin := din, cmdPayload := p, env := e }
  | overlap {v : Nat} (hh : s.env.host.head? = some (.wr 0x00 v)) (hb : s.status.busy = true) :
    HostEffect s (s.fetchOp v).setOverlap
  | issues {v : Nat} {t : State} (hh : s.env.host.head? = some (.wr 0x00 v)) (hb : s.status.busy = false)
    (hi : IssueEffect (s.fetchOp v) (decodeOperation (BitVec.ofNat 8 v)) t) : HostEffect s t
  | resets (hh : s.env.host.head? = some .reset) : HostEffect s s.popHost.assertReset

theorem writeIndex_operands (s : State) (x : Byte) (v : Nat) : ∃ op ty n din p,
    writeIndex s x v = { s with op := op, cmdType := ty, cmdLen := n, crcDin := din, cmdPayload := p } := by
  unfold writeIndex writeReg
  split
  · split <;> exact ⟨_, _, _, _, _, rfl⟩
  · exact ⟨_, _, _, _, _, rfl⟩

theorem hostTurn_effect {s t : State} (h : hostTurn s = .next t) : HostEffect s t := by
  have agents (e : Env) : HostEffect s { s with env := e } :=
    .operands s.op s.cmdType s.cmdLen s.crcDin s.cmdPayload e
  rcases hostTurn_cases s with ⟨-, e⟩ | ⟨v, _, hh, e⟩ | ⟨x, v, _, -, -, e⟩ | ⟨x, _, -, e⟩ | ⟨_, -, e⟩ | ⟨_, hh, e⟩ <;>
    rw [e] at h
  · cases h
    exact agents s.env
  · have hh : s.env.host.head? = some (.wr 0x00 v) := by rw [hh]; rfl
    rcases exec_operation_cases (decodeOperation_space _) h with ⟨hb, rfl⟩ | ⟨hb, hi⟩
    · exact .overlap hh hb
    · exact .issues hh hb hi
  · obtain ⟨op, ty, n, din, p, hw⟩ := writeIndex_operands s.popHost x v
    cases h
    rw [hw]
    exact .operands op ty n din p _
  · cases h
    exact agents _
  · split at h <;> cases h
    · exact agents s.env
    · exact agents _
  · cases h
    exact .resets (by rw [hh]; rfl)

/-- A step is a turn of the host or of the core, on the state whose listed turn is taken, or nothing. -/
theorem step_effect {s t : State} (h : step s = .next t) :
    t = s ∨ (nextTurn s = some .host ∧ HostEffect s.popTurn t) ∨ (nextTurn s = some .core ∧ CoreEffect s.popTurn t) := by
  rcases step_cases s with ⟨-, e⟩ | ⟨hn, e⟩ | ⟨hn, e⟩ <;> rw [e] at h
  · cases h
    exact .inl rfl
  · exact .inr (.inl ⟨hn, hostTurn_effect h⟩)
  · exact .inr (.inr ⟨hn, coreTurn_effect h⟩)

end Sys2Proof.Machine
end

section
/-! The invariant of the block: every named update keeps it, so every effect of a turn does (O53). -/

namespace Sys2Proof.Machine

/-! ### The invariant over the named updates -/

theorem Inv.busy_of_phase {s : State} (h : Inv s) (hp : s.phase ≠ .idle) : s.status.busy = true := h.busy_iff.mpr hp

/-- The operands, OP and the agents are no part of the invariant. -/
theorem Inv.operands {s : State} (h : Inv s) (op ty n din : Byte) (p : Vector Byte 22) (e : Env) :
    Inv { s with op := op, cmdType := ty, cmdLen := n, crcDin := din, cmdPayload := p, env := e } :=
  { h with }

theorem Inv.agents {s : State} (h : Inv s) (e : Env) : Inv { s with env := e } := { h with }

theorem Inv.setOverlap {s : State} (h : Inv s) : Inv s.setOverlap := { h with }

theorem Inv.log {s : State} (h : Inv s) (e : DiagEvent) : Inv (s.log e) := { h with }

theorem Inv.setQovf {s : State} (h : Inv s) : Inv s.setQovf := { h with }

theorem Inv.finish {s : State} (h : Inv s) (r : ResultCode) : Inv (s.finish r) :=
  { h with
    busy_iff := by simp
    alive := fun hi => absurd rfl hi
    poll_empty := fun hi => absurd rfl hi
    hidden := trivial }

/-- A completion in a dead session: the core is Idle, so that no operation is in flight. -/
theorem Inv.setDead_finish {s : State} (h : Inv s) (r : ResultCode) : Inv (s.setDead.finish r) :=
  { h.finish r with alive := fun hi => absurd rfl hi }

theorem Inv.finishPoll_false {s : State} (h : Inv s) (r : ResultCode) : Inv (s.finishPoll false r) :=
  { h.finish r with rep_valid := nofun }

theorem Inv.setDead_finishPoll_false {s : State} (h : Inv s) (r : ResultCode) : Inv (s.setDead.finishPoll false r) :=
  { h.setDead_finish r with rep_valid := nofun }

theorem Inv.writeRsp {s : State} (h : Inv s) {p : List Byte} (hp : p.length ≤ maxPayload) (t : Byte) (c : Word) :
    Inv (s.writeRsp t p c) :=
  { h with
    rsp_len := (lengthByte_toNat hp).trans_le hp
    rsp_tail := payloadRegs_tail hp }

/-- POLL_REPORT returns an accepted report (10_state.md R39). -/
theorem Inv.returnReport {s : State} (h : Inv s) {t : Byte} {p : List Byte} (hp : p.length ≤ maxPayload)
    (hc : typeClass t = 0b10) (hr : (Config.reportDecode (typeCode t) p).isSome) :
    Inv ((s.writeRep t p).finishPoll true .ok) :=
  { h.finish .ok with
    rep_len := (lengthByte_toNat hp).trans_le hp
    rep_tail := payloadRegs_tail hp
    rep_valid := fun _ => ⟨hc, by
      have hb : ((s.writeRep t p).finishPoll true .ok).repBytes = p := payloadBytes_payloadRegs hp
      rwa [hb]⟩ }

/-- A TRANSACT queues an accepted report where there is room (10_state.md R38). -/
theorem Inv.enqueue {s : State} (h : Inv s) (ho : s.opk = .transact) {t : Byte} {p : List Byte}
    (hroom : queueFull Config.params s = false) (hp : p.length ≤ maxPayload) (hc : typeClass t = 0b10)
    (hr : (Config.reportDecode (typeCode t) p).isSome) : Inv { s with queue := s.queue ++ [⟨t, p⟩] } :=
  { h with
    queue_entries := by
      intro e he
      rcases List.mem_append.mp he with he | he
      · exact h.queue_entries e he
      · rw [List.mem_singleton.mp he]
        exact ⟨hc, hp, hr⟩
    queue_cap := by
      intro k hk
      have hlt : ¬k ≤ s.queue.length := fun hle => by
        simp [(queueFull_iff Config.params s).mpr ⟨k, hk, hle⟩] at hroom
      simp only [List.length_append, List.length_singleton]
      omega
    poll_empty := fun _ hk => absurd (ho.symm.trans hk) nofun }

/-- The head is taken off the queue, which no POLL_REPORT in flight has (42_engine.md R181). -/
theorem Inv.dequeue {s : State} (h : Inv s) {e : QEntry} {rest : List QEntry} (hq : s.queue = e :: rest) :
    Inv { s with queue := rest } :=
  { h with
    queue_entries := fun x hx => h.queue_entries x (hq ▸ List.mem_cons_of_mem e hx)
    queue_cap := fun k hk => by
      have := h.queue_cap k hk
      simp only [hq, List.length_cons] at this
      simp only
      omega
    poll_empty := fun hi ho => absurd (hq.symm.trans (h.poll_empty hi ho)) nofun }

/-- The core goes on to another phase of the operation in flight, the other hidden state being free to change: what is
left to show is what that phase holds. -/
theorem Inv.toPhase {s : State} (h : Inv s) (hi : s.phase ≠ .idle) {ph : Phase} (hph : ph ≠ .idle) {txbuf rBuf : List Byte}
    {rType rLen rLo : Byte}
    (hh : HiddenInv { s with phase := ph, txbuf := txbuf, rType := rType, rLen := rLen, rBuf := rBuf, rLo := rLo }) :
    Inv { s with phase := ph, txbuf := txbuf, rType := rType, rLen := rLen, rBuf := rBuf, rLo := rLo } :=
  { h with
    busy_iff := iff_of_true (h.busy_of_phase hi) hph
    alive := fun _ => h.alive hi
    poll_empty := fun _ => h.poll_empty hi
    hidden := hh }

/-- An operation is issued on the transport (10_state.md R25). -/
theorem Inv.begin {s : State} (h : Inv s) {k : OpKind} {ph : Phase} (hph : ph ≠ .idle) {txbuf : List Byte} {scode : Code}
    (ha : k = .transact ∨ k = .pollReport → s.status.dead = false) (hq : k = .pollReport → s.queue = [])
    (hh : HiddenInv { s.begin k ph with txbuf := txbuf, scode := scode }) :
    Inv { s.begin k ph with txbuf := txbuf, scode := scode } :=
  { h with
    busy_iff := iff_of_true rfl hph
    alive := fun _ => ha
    poll_empty := fun _ => hq
    hidden := hh }

/-! ### The invariant over the turns -/

theorem FailureEffect.inv {s t : State} (hf : FailureEffect s t) (h : Inv s) : Inv t := by
  cases hf with
  | completes r => exact h.finish r
  | pollCompletes => exact h.finishPoll_false _
  | desync => exact h.setDead_finish _
  | pollDesync => exact h.setDead_finishPoll_false _

/-- The reader goes back to a frame's first byte. -/
theorem Inv.nextFrame {s : State} (h : Inv s) (hi : s.phase ≠ .idle) (ho : s.opk = .transact) :
    Inv { s with phase := .rxType } := by
  refine h.toPhase hi (by nofun) ?_
  simp [HiddenInv, ho]

theorem FrameEffect.inv {t : Byte} {p : List Byte} {c : Word} {s u : State} (hf : FrameEffect t p c s u) (h : Inv s)
    (hi : s.phase ≠ .idle) (hp : p.length ≤ maxPayload) : Inv u := by
  cases hf with
  | corrupt hf => exact hf.inv h
  | delivered r => exact (h.writeRsp hp t c).finish r
  | logged e ho => exact (h.log e).nextFrame hi ho
  | overflow e ho => exact (h.log e).setQovf.nextFrame hi ho
  | queued ho hroom hc hr => exact (h.enqueue ho hroom hp hc hr).nextFrame hi ho
  | polled _ hc hr => exact h.returnReport hp hc hr
  | pollLogged e => exact (h.log e).finishPoll_false _

theorem CoreEffect.inv {s t : State} (hc : CoreEffect s t) (h : Inv s) : Inv t := by
  have hh := h.hidden
  cases hc with
  | holds => exact h
  | sends b hp hi =>
    simp only [HiddenInv, hp] at hh
    exact (h.agents _).toPhase (by simp [hp]) (by nofun) ⟨hi, hh.2⟩
  | sendCompletes b => exact (h.agents _).finish _
  | commandSent b hp ho => exact (h.agents _).nextFrame (by simp [hp]) ho
  | sendFails e => exact (h.agents e).finish _
  | readFails hf => exact hf.inv (h.agents _)
  | badLength b hp hf =>
    simp only [HiddenInv, hp] at hh
    refine hf.inv ((h.agents _).toPhase (ph := s.phase) (by simp [hp]) (by simp [hp]) ?_)
    simpa [HiddenInv, hp] using hh
  | readsType b hp =>
    simp only [HiddenInv, hp] at hh
    exact (h.agents _).toPhase (by simp [hp]) (by nofun) hh
  | readsLength b hp hb =>
    simp only [HiddenInv, hp] at hh
    refine (h.agents _).toPhase (by simp [hp]) (by split <;> nofun) ?_
    split
    · rename_i h0
      exact ⟨hh, by simp [h0], hb⟩
    · rename_i h0
      exact ⟨hh, rfl, Nat.pos_of_ne_zero fun hz => h0 (BitVec.eq_of_toNat_eq hz), hb⟩
  | readsPayload b hp =>
    simp only [HiddenInv, hp] at hh
    obtain ⟨ho, hlen, hj, hle⟩ := hh
    refine (h.agents _).toPhase (by simp [hp]) (by split <;> nofun) ?_
    split
    · exact ⟨ho, by simp [hlen], ‹_›, hle⟩
    · exact ⟨ho, by simp [hlen]; omega, hle⟩
  | readsCrcLow b hp =>
    simp only [HiddenInv, hp] at hh
    exact (h.agents _).toPhase (by simp [hp]) (by nofun) hh
  | readsFrame b hp hf =>
    simp only [HiddenInv, hp] at hh
    obtain ⟨-, hlen, hle⟩ := hh
    refine hf.inv { h with } (by simp [hp]) (hlen.trans_le hle)

theorem State.cmdBytes_length (s : State) : s.cmdBytes.length ≤ maxPayload :=
  (payloadBytes_length _ _).trans_le (Nat.min_le_right _ _)

theorem IssueEffect.inv {s t : State} {i : Instr} (hi : IssueEffect s i t) (h : Inv s) : Inv t := by
  cases hi with
  | atOnce acc out cls ok r =>
    exact Inv.finish (s := { s with
      crcAcc := acc, crcOut := out, classOut := cls, status := { s.status with crcOk := ok } }) { h with } r
  | send =>
    refine h.begin (by nofun) (by nofun) (by nofun) ?_
    exact ⟨by simp, _, s.cmdBytes_length, .inl ⟨rfl, _, rfl⟩⟩
  | receive => exact h.begin (by nofun) (by nofun) (by nofun) (by nofun)
  | transact _ hd =>
    refine h.begin (by nofun) (fun _ => hd) (by nofun) ?_
    exact ⟨by simp, _, s.cmdBytes_length, .inr ⟨rfl, rfl⟩⟩
  | dequeues hq =>
    obtain ⟨hc, hp, hr⟩ := h.queue_entries _ (hq ▸ List.mem_cons_self)
    exact (h.dequeue hq).returnReport hp hc hr
  | pollCompletes e r => exact (h.agents e).finishPoll_false r
  | polls e hq hd => exact (h.agents e).begin (by nofun) (fun _ => hd) (fun _ => hq) (by nofun)

theorem inv_reset : Inv State.reset where
  busy_iff := by decide
  rsp_len := by decide
  rsp_tail := by decide
  rep_len := by decide
  rep_tail := by decide
  rep_valid := nofun
  queue_entries := nofun
  queue_cap := fun k _ => Nat.zero_le k
  alive := fun hi => absurd rfl hi
  poll_empty := fun hi => absurd rfl hi
  hidden := trivial

theorem HostEffect.inv {s t : State} (hs : HostEffect s t) (h : Inv s) : Inv t := by
  cases hs with
  | operands op ty n din p e => exact h.operands op ty n din p e
  | overlap => exact (h.operands _ _ _ _ _ _).setOverlap
  | issues _ _ hi => exact hi.inv (h.operands _ _ _ _ _ _)
  | resets => exact inv_reset.agents _

/-- Settles O53: a turn of either agent is one of its listed effects, and each of these keeps the invariant. -/
theorem stepKeepsInvariant : Obligations.StepKeepsInvariant := by
  intro s t h hst
  rcases step_effect hst with rfl | ⟨-, hs⟩ | ⟨-, hc⟩
  · exact h
  · exact hs.inv (h.agents _)
  · exact hc.inv (h.agents _)

end Sys2Proof.Machine
end

section
/-! What a step leaves alone: the result registers until the completion, the sticky bits, the queue and the trace (O55 to
O58). Each is read off the effects of the turns. -/

namespace Sys2Proof.Machine

open Sys2Proof.Claims

/-- The reset input is not what a host's turn acts on. -/
theorem not_reset_of_turn {s : State} (hr : ¬HostResets s) (hn : nextTurn s = some .host) :
    s.popTurn.env.host.head? ≠ some .reset := fun hh => hr ⟨hn, hh⟩

/-! ### What the failures and the host leave alone -/

/-- What the end of an operation in a failure leaves alone: all that is kept of reports and of losses. -/
structure FailureFrame (s t : State) : Prop where
  qovf : t.status.qovf = s.status.qovf
  overlap : t.status.overlap = s.status.overlap
  queue : t.queue = s.queue
  diag : t.diag = s.diag

theorem FailureEffect.frame {s t : State} (hf : FailureEffect s t) : FailureFrame s t := by
  cases hf <;> constructor <;> rfl

/-- What the issue of an operation leaves alone: the sticky bits and the trace. -/
structure IssueFrame (s t : State) : Prop where
  dead : t.status.dead = s.status.dead
  qovf : t.status.qovf = s.status.qovf
  overlap : t.status.overlap = s.status.overlap
  diag : t.diag = s.diag

theorem IssueEffect.frame {s t : State} {i : Instr} (hi : IssueEffect s i t) : IssueFrame s t := by
  cases hi <;> constructor <;> rfl

/-- What the host's turn leaves alone, but for reset: the sticky bits of the engine and the trace. -/
structure HostFrame (s t : State) : Prop where
  dead : t.status.dead = s.status.dead
  qovf : t.status.qovf = s.status.qovf
  diag : t.diag = s.diag

theorem HostEffect.frame {s t : State} (hs : HostEffect s t) (hr : s.env.host.head? ≠ some .reset) : HostFrame s t := by
  cases hs with
  | operands | overlap => constructor <;> rfl
  | issues _ _ hi => exact ⟨hi.frame.dead, hi.frame.qovf, hi.frame.diag⟩
  | resets hh => exact absurd hh hr

/-! ### The result registers -/

/-- The registers that hold an operation's results (10_state.md R27). -/
def State.results (s : State) :=
  (s.status.result, s.status.crcOk, s.status.reportValid, s.crcAcc, s.crcOut, s.classOut, s.rspType, s.rspLen,
    s.rspPayload, s.rspCrc, s.repType, s.repLen, s.repPayload)

theorem FailureEffect.completed {s t : State} (hf : FailureEffect s t) : t.status.busy = false := by
  cases hf <;> rfl

theorem FrameEffect.results_or_completed {ty : Byte} {p : List Byte} {c : Word} {s t : State}
    (hf : FrameEffect ty p c s t) : t.results = s.results ∨ t.status.busy = false := by
  cases hf with
  | corrupt hf => exact .inr hf.completed
  | delivered | polled | pollLogged => exact .inr rfl
  | logged | overflow | queued => exact .inl rfl

theorem CoreEffect.results_or_completed {s t : State} (hc : CoreEffect s t) :
    t.results = s.results ∨ t.status.busy = false := by
  cases hc with
  | sendCompletes | sendFails => exact .inr rfl
  | readFails hf => exact .inr hf.completed
  | badLength _ _ hf => exact .inr hf.completed
  | readsFrame _ _ hf => exact hf.results_or_completed
  | holds | sends | commandSent | readsType | readsLength | readsPayload | readsCrcLow => exact .inl rfl

theorem HostEffect.results_or_completed {s t : State} (hs : HostEffect s t) (hb : s.status.busy = true) :
    t.results = s.results ∨ t.status.busy = false := by
  cases hs with
  | operands | overlap => exact .inl rfl
  | issues _ hidle => exact absurd (hb.symm.trans hidle) nofun
  | resets => exact .inr rfl

/-- Settles O55: a turn that changes a result register while BUSY is one that completes the operation. -/
theorem resultsChangeOnlyAtCompletion : Obligations.ResultsChangeOnlyAtCompletion := by
  intro s t h hb ht
  have key : t.results = s.results ∨ t.status.busy = false := by
    rcases step_effect h with rfl | ⟨-, hs⟩ | ⟨-, hc⟩
    · exact .inl rfl
    · exact hs.results_or_completed hb
    · exact hc.results_or_completed
  have hr : t.results = s.results := key.resolve_right (by simp [ht])
  simpa only [State.results, Prod.mk.injEq] using hr

/-! ### The sticky bits -/

/-- A sticky bit is as before, or it is set and its rule's cause is there (10_state.md R32). -/
def SetOnly (old new : Bool) (cause : Prop) : Prop := new = old ∨ (new = true ∧ cause)

theorem SetOnly.same {b : Bool} {cause : Prop} : SetOnly b b cause := .inl rfl

theorem SetOnly.kept {old new : Bool} {cause : Prop} (h : SetOnly old new cause) (ho : old = true) : new = true :=
  h.elim (·.trans ho) (·.1)

theorem SetOnly.cause {old new : Bool} {cause : Prop} (h : SetOnly old new cause) (ho : old = false)
    (hn : new = true) : cause :=
  h.elim (fun e => absurd (hn.symm.trans (e.trans ho)) nofun) (·.2)

/-- An engine operation completes with DESYNC (42_engine.md R184). -/
def Desyncs (s t : State) : Prop :=
  (s.opk = .transact ∨ s.opk = .pollReport) ∧ t.status.result = .desync ∧ t.status.busy = false

theorem FailureEffect.dead {s t : State} (hf : FailureEffect s t) :
    SetOnly s.status.dead t.status.dead (Desyncs s t) := by
  cases hf with
  | completes | pollCompletes => exact .same
  | desync ho => exact .inr ⟨rfl, .inl ho, rfl, rfl⟩
  | pollDesync ho => exact .inr ⟨rfl, .inr ho, rfl, rfl⟩

theorem FrameEffect.dead {ty : Byte} {p : List Byte} {c : Word} {s t : State} (hf : FrameEffect ty p c s t) :
    SetOnly s.status.dead t.status.dead (Desyncs s t) := by
  cases hf with
  | corrupt hf => exact hf.dead
  | delivered | logged | overflow | queued | polled | pollLogged => exact .same

theorem CoreEffect.dead {s t : State} (hc : CoreEffect s t) : SetOnly s.status.dead t.status.dead (Desyncs s t) := by
  cases hc with
  | readFails hf => exact hf.dead
  | badLength _ _ hf => exact hf.dead
  | readsFrame _ _ hf => exact hf.dead
  | holds | sends | sendCompletes | commandSent | sendFails | readsType | readsLength | readsPayload
  | readsCrcLow => exact .same

theorem step_dead {s t : State} (h : step s = .next t) (hr : ¬HostResets s) :
    SetOnly s.status.dead t.status.dead (Desyncs s t) := by
  rcases step_effect h with rfl | ⟨hn, hs⟩ | ⟨-, hc⟩
  · exact .same
  · exact .inl (hs.frame (not_reset_of_turn hr hn)).dead
  · exact hc.dead

/-- A TRANSACT loses a report at a full queue (42_engine.md R178). -/
def Overflows (s t : State) : Prop :=
  s.opk = .transact ∧ t.queue = s.queue ∧ ∃ k, Config.qdepth = some k ∧ k ≤ s.queue.length

theorem FrameEffect.qovf {ty : Byte} {p : List Byte} {c : Word} {s t : State} (hf : FrameEffect ty p c s t) :
    SetOnly s.status.qovf t.status.qovf (Overflows s t) := by
  cases hf with
  | corrupt hf => exact .inl hf.frame.qovf
  | overflow _ ho hfull => exact .inr ⟨rfl, ho, rfl, (queueFull_iff _ _).mp hfull⟩
  | delivered | logged | queued | polled | pollLogged => exact .same

theorem CoreEffect.qovf {s t : State} (hc : CoreEffect s t) :
    SetOnly s.status.qovf t.status.qovf (s.phase = .rxCrcHi ∧ Overflows s t) := by
  cases hc with
  | readFails hf => exact .inl hf.frame.qovf
  | badLength _ _ hf => exact .inl hf.frame.qovf
  | readsFrame _ hp hf => exact hf.qovf.imp id fun ⟨hset, ho⟩ => ⟨hset, hp, ho⟩
  | holds | sends | sendCompletes | commandSent | sendFails | readsType | readsLength | readsPayload
  | readsCrcLow => exact .same

theorem step_qovf {s t : State} (h : step s = .next t) (hr : ¬HostResets s) :
    SetOnly s.status.qovf t.status.qovf (s.phase = .rxCrcHi ∧ Overflows s t) := by
  rcases step_effect h with rfl | ⟨hn, hs⟩ | ⟨-, hc⟩
  · exact .same
  · exact .inl (hs.frame (not_reset_of_turn hr hn)).qovf
  · exact hc.qovf

theorem FrameEffect.overlap {ty : Byte} {p : List Byte} {c : Word} {s t : State} (hf : FrameEffect ty p c s t) :
    t.status.overlap = s.status.overlap := by
  cases hf with
  | corrupt hf => exact hf.frame.overlap
  | delivered | logged | overflow | queued | polled | pollLogged => rfl

theorem CoreEffect.overlap {s t : State} (hc : CoreEffect s t) : t.status.overlap = s.status.overlap := by
  cases hc with
  | readFails hf => exact hf.frame.overlap
  | badLength _ _ hf => exact hf.frame.overlap
  | readsFrame _ _ hf => exact hf.overlap
  | holds | sends | sendCompletes | commandSent | sendFails | readsType | readsLength | readsPayload
  | readsCrcLow => rfl

theorem HostEffect.overlap_set {s t : State} (hs : HostEffect s t) (hr : s.env.host.head? ≠ some .reset) :
    SetOnly s.status.overlap t.status.overlap
      (s.status.busy = true ∧ ∃ v, s.env.host.head? = some (.wr 0x00 v)) := by
  cases hs with
  | operands => exact .same
  | overlap hh hb => exact .inr ⟨rfl, hb, _, hh⟩
  | issues _ _ hi => exact .inl hi.frame.overlap
  | resets hh => exact absurd hh hr

theorem step_overlap {s t : State} (h : step s = .next t) (hr : ¬HostResets s) :
    SetOnly s.status.overlap t.status.overlap
      (s.status.busy = true ∧ nextTurn s = some .host ∧ ∃ v, s.env.host.head? = some (.wr 0x00 v)) := by
  rcases step_effect h with rfl | ⟨hn, hs⟩ | ⟨-, hc⟩
  · exact .same
  · exact (hs.overlap_set (not_reset_of_turn hr hn)).imp id fun ⟨hset, hb, hv⟩ => ⟨hset, hb, hn, hv⟩
  · exact .inl hc.overlap

/-- Settles O56: each of the three bits is as before in a step, or set with its cause. -/
theorem stickyBitsSetAndKept : Obligations.StickyBitsSetAndKept := by
  intro s t h hr
  have hd := step_dead h hr
  have hq := step_qovf h hr
  have ho := step_overlap h hr
  refine ⟨hd.kept, hq.kept, ho.kept, hd.cause, fun h0 h1 => ?_, ho.cause⟩
  obtain ⟨hp, hk, hqueue, hfull⟩ := hq.cause h0 h1
  exact ⟨hk, hp, hqueue, hfull⟩

/-! ### The queue -/

theorem FrameEffect.queue {ty : Byte} {p : List Byte} {c : Word} {s t : State} (hf : FrameEffect ty p c s t) :
    t.queue = s.queue ∨ (s.opk = .transact ∧ ∃ e, t.queue = s.queue ++ [e]) := by
  cases hf with
  | corrupt hf => exact .inl hf.frame.queue
  | queued ho => exact .inr ⟨ho, _, rfl⟩
  | delivered | logged | overflow | polled | pollLogged => exact .inl rfl

theorem CoreEffect.queue {s t : State} (hc : CoreEffect s t) :
    t.queue = s.queue ∨ (s.opk = .transact ∧ s.phase = .rxCrcHi ∧ ∃ e, t.queue = s.queue ++ [e]) := by
  cases hc with
  | readFails hf => exact .inl hf.frame.queue
  | badLength _ _ hf => exact .inl hf.frame.queue
  | readsFrame _ hp hf => exact hf.queue.imp id fun ⟨ho, he⟩ => ⟨ho, hp, he⟩
  | holds | sends | sendCompletes | commandSent | sendFails | readsType | readsLength | readsPayload
  | readsCrcLow => exact .inl rfl

theorem IssueEffect.queue {s t : State} {i : Instr} (hi : IssueEffect s i t) :
    t.queue = s.queue ∨ (i = .pollReport ∧ t.queue = s.queue.tail) := by
  cases hi with
  | dequeues hq => exact .inr ⟨rfl, by rw [hq]; rfl⟩
  | atOnce | send | receive | transact | pollCompletes | polls => exact .inl rfl

theorem HostEffect.queue {s t : State} (hs : HostEffect s t) (hr : s.env.host.head? ≠ some .reset) :
    t.queue = s.queue ∨ (s.status.busy = false ∧ t.queue = s.queue.tail ∧
      ∃ v, s.env.host.head? = some (.wr 0x00 v) ∧ v % 256 = 0x0A) := by
  cases hs with
  | operands | overlap => exact .inl rfl
  | @issues v _ hh hb hi =>
    refine hi.queue.imp id fun ⟨hop, hq⟩ => ⟨hb, hq, v, hh, ?_⟩
    simpa using decodeOperation_eq_pollReport hop
  | resets hh => exact absurd hh hr

/-- Settles O57: of the effects of the turns only the queueing of a report and the issue of POLL_REPORT change the
queue. -/
theorem queueChangesOnlyByEngine : Obligations.QueueChangesOnlyByEngine := by
  intro s t h hr hne
  rcases step_effect h with rfl | ⟨hn, hs⟩ | ⟨hn, hc⟩
  · exact absurd rfl hne
  · exact .inr ⟨hn, (hs.queue (not_reset_of_turn hr hn)).resolve_left hne⟩
  · exact .inl ⟨hn, hc.queue.resolve_left hne⟩

/-! ### The trace -/

/-- The trace is as before or has one more event (10_state.md R35). -/
def DiagGrows (s t : State) : Prop := t.diag = s.diag ∨ ∃ e, t.diag = s.diag ++ [e]

theorem FrameEffect.diagGrows {ty : Byte} {p : List Byte} {c : Word} {s t : State} (hf : FrameEffect ty p c s t) :
    DiagGrows s t := by
  cases hf with
  | corrupt hf => exact .inl hf.frame.diag
  | logged e | overflow e | pollLogged e => exact .inr ⟨e, rfl⟩
  | delivered | queued | polled => exact .inl rfl

theorem CoreEffect.diagGrows {s t : State} (hc : CoreEffect s t) : DiagGrows s t := by
  cases hc with
  | readFails hf => exact .inl hf.frame.diag
  | badLength _ _ hf => exact .inl hf.frame.diag
  | readsFrame _ _ hf => exact hf.diagGrows
  | holds | sends | sendCompletes | commandSent | sendFails | readsType | readsLength | readsPayload
  | readsCrcLow => exact .inl rfl

/-- Settles O58: only a whole frame adds to the trace, and it adds one event. -/
theorem diagnosticTraceAppendOnly : Obligations.DiagnosticTraceAppendOnly := by
  intro s t h hr
  rcases step_effect h with rfl | ⟨hn, hs⟩ | ⟨-, hc⟩
  · exact .inl rfl
  · exact .inl (hs.frame (not_reset_of_turn hr hn)).diag
  · exact hc.diagGrows

end Sys2Proof.Machine
end

section
/-! The core's turn of an operation in flight does not read the operand registers, which were latched at the issue (O60). -/

namespace Sys2Proof.Machine

open Sys2Proof.Claims

/-- An update neither reads nor writes the host's operand registers (10_state.md R41; 20_memory.md R72). -/
def IgnoresOperands (f : State → State) : Prop :=
  ∀ (t n din : Byte) (p : Vector Byte 22) (s : State), f (withOperands t n din p s) = withOperands t n din p (f s)

section
variable (t n din : Byte) (p : Vector Byte 22) (s : State)

@[simp] theorem withOperands_phase : (withOperands t n din p s).phase = s.phase := rfl
@[simp] theorem withOperands_opk : (withOperands t n din p s).opk = s.opk := rfl
@[simp] theorem withOperands_txbuf : (withOperands t n din p s).txbuf = s.txbuf := rfl
@[simp] theorem withOperands_scode : (withOperands t n din p s).scode = s.scode := rfl
@[simp] theorem withOperands_env : (withOperands t n din p s).env = s.env := rfl

end

theorem IgnoresOperands.ite {f g : State → State} (c : Prop) [Decidable c] (hf : IgnoresOperands f)
    (hg : IgnoresOperands g) : IgnoresOperands fun s => if c then f s else g s := by
  intro t n din p s
  split
  · exact hf ..
  · exact hg ..

theorem desync_ignoresOperands : IgnoresOperands State.desync := by
  intro t n din p s
  cases ho : s.opk <;> simp only [State.desync, withOperands_opk, ho] <;> rfl

theorem ioFail_ignoresOperands : IgnoresOperands State.ioFail := by
  intro t n din p s
  cases ho : s.opk <;> simp only [State.ioFail, withOperands_opk, ho] <;> rfl

theorem truncated_ignoresOperands : IgnoresOperands State.truncated := by
  intro t n din p s
  cases ho : s.opk <;> simp only [State.truncated, withOperands_opk, ho, desync_ignoresOperands t n din p s]
  case receive => rfl

theorem badLength_ignoresOperands : IgnoresOperands State.badLength := by
  intro t n din p s
  cases ho : s.opk <;> simp only [State.badLength, withOperands_opk, ho, desync_ignoresOperands t n din p s]
  case receive => rfl

theorem rxFail_ignoresOperands : IgnoresOperands State.rxFail := by
  intro t n din p s
  cases hp : s.phase <;>
    simp only [State.rxFail, withOperands_phase, hp, ioFail_ignoresOperands t n din p s, truncated_ignoresOperands t n din p s]

theorem sentAll_ignoresOperands : IgnoresOperands State.sentAll := by
  intro t n din p s
  cases ho : s.opk <;> simp only [State.sentAll, withOperands_opk, ho] <;> rfl

theorem txByte_ignoresOperands (i : Nat) (b : Byte) : IgnoresOperands fun s => s.txByte i b := by
  intro t n din p s
  rcases htx : s.env.tx with _ | ⟨_ | reached, _⟩ <;> 
    simp only [State.txByte, withOperands_env, htx]
  case cons.ok =>
    exact IgnoresOperands.ite (i + 1 < s.txbuf.length) (f := fun s => { s with phase := .tx (i + 1) })
      (fun _ _ _ _ _ => rfl) sentAll_ignoresOperands t n din p (s.popTx.putWire b)
  case cons.fail => cases reached <;> rfl

theorem rxByte_ignoresOperands (b : Byte) : IgnoresOperands fun s => s.rxByte b := by
  intro t n din p s
  cases hp : s.phase
  case rxLen =>
    by_cases hb : maxPayload < b.toNat
    · simp only [State.rxByte_badLength hp hb, State.rxByte_badLength (s := withOperands t n din p s) hp hb]
      exact badLength_ignoresOperands t n din p { s with rLen := b }
    · simp only [State.rxByte_rxLen hp hb, State.rxByte_rxLen (s := withOperands t n din p s) hp hb]
      rfl
  all_goals simp only [State.rxByte, withOperands_phase, hp] <;> rfl

theorem checkedFrame_ignoresOperands (ty : Byte) (l : List Byte) (c : Word) {f : State → State} (hf : IgnoresOperands f) :
    IgnoresOperands fun s => checkedFrame ty l c s f :=
  .ite _ hf desync_ignoresOperands

theorem enqueue_ignoresOperands {R : Type} (P : Params R) (ty : Byte) (l : List Byte) :
    IgnoresOperands (enqueue P ty l) := by
  intro t n din p s
  have hq : queueFull P (withOperands t n din p s) = queueFull P s := rfl
  simp only [enqueue, hq]
  split <;> rfl

theorem takeReport_ignoresOperands {R : Type} (P : Params R) (ty : Byte) (l : List Byte) :
    IgnoresOperands (takeReport P ty l) := by
  intro t n din p s
  simp only [takeReport]
  split
  · rfl
  · rw [enqueue_ignoresOperands P ty l t n din p s]
    rfl

theorem processFrame_ignoresOperands {R : Type} (P : Params R) (ty : Byte) (l : List Byte) (c : Word) :
    IgnoresOperands (processFrame P ty l c) := by
  refine checkedFrame_ignoresOperands ty l c fun t n din p s => ?_
  simp only [withOperands_scode]
  split
  · exact takeReport_ignoresOperands P ty l t n din p s
  all_goals rfl

theorem pollProcess_ignoresOperands {R : Type} (P : Params R) (ty : Byte) (l : List Byte) (c : Word) :
    IgnoresOperands (pollProcess P ty l c) := by
  refine checkedFrame_ignoresOperands ty l c fun t n din p s => ?_
  split
  · split <;> rfl
  · rfl

theorem gotFrame_ignoresOperands {R : Type} (P : Params R) (ty : Byte) (l : List Byte) (c : Word) :
    IgnoresOperands (gotFrame P ty l c) := by
  intro t n din p s
  cases ho : s.opk <;> simp only [gotFrame, withOperands_opk, ho]
  case receive => rfl
  case transact => exact processFrame_ignoresOperands P ty l c t n din p s
  case pollReport => exact pollProcess_ignoresOperands P ty l c t n din p s

theorem coreTakes_ignoresOperands (b : Byte) : IgnoresOperands (coreTakes b) := by
  intro t n din p s
  by_cases hp : s.phase = .rxCrcHi
  · rw [coreTakes_frame hp, coreTakes_frame (s := withOperands t n din p s) hp]
    exact gotFrame_ignoresOperands _ _ _ _ t n din p { s.takeByte b with rHi := b }
  · rw [coreTakes_inside hp, coreTakes_inside (s := withOperands t n din p s) hp]
    exact rxByte_ignoresOperands b t n din p (s.takeByte b)

theorem coreMove_ignoresOperands : IgnoresOperands coreMove := by
  intro t n din p s
  cases hp : s.phase <;> simp only [coreMove, withOperands_phase, withOperands_env, withOperands_txbuf, hp]
  case tx i => exact txByte_ignoresOperands i _ t n din p s
  all_goals
    split
    · rfl
    · exact rxFail_ignoresOperands t n din p s.popRx
    · exact coreTakes_ignoresOperands _ t n din p s

/-- Settles O60: what the core's turn makes of a state ignores the operands, and so does the check of the phase. -/
theorem operandsLatchedAtIssue : Obligations.OperandsLatchedAtIssue := by
  intro s t n din p _
  have hs : strayPhase (withOperands t n din p s) = strayPhase s := rfl
  rw [coreTurn_eq, coreTurn_eq, hs, coreMove_ignoresOperands]
  split <;> rfl

end Sys2Proof.Machine
end

section
/-! The host port: registers by index, the layout of STATUS, and the host's accesses (O14, O16, O17, O18, O21). -/

namespace Sys2Proof.Machine

/-! ### Registers by index -/

theorem Reg.ofIndex_index (r : Reg) : Reg.ofIndex r.index = some r := by
  cases r
  case cmdPayload i => revert i; decide
  case rspPayload i => revert i; decide
  case repPayload i => revert i; decide
  all_goals rfl

theorem Reg.index_of_ofIndex {x : Byte} {r : Reg} (h : Reg.ofIndex x = some r) : r.index = x := by
  apply BitVec.eq_of_toNat_eq
  unfold Reg.ofIndex at h
  simp only at h
  iterate 3
    split at h
    · cases h
      simp only [Reg.index, BitVec.toNat_ofNat]
      omega
  split at h <;> cases h <;> simp_all [Reg.index]

/-- Settles O14: the two directions of the index map, each by its case per register or range. -/
theorem registerIndexing : Obligations.RegisterIndexing :=
  ⟨Reg.ofIndex_index, fun _ _ => Reg.index_of_ofIndex⟩

theorem Reg.eq_index_iff {x : Byte} {r : Reg} : x = r.index ↔ Reg.ofIndex x = some r :=
  ⟨fun h => h ▸ Reg.ofIndex_index r, fun h => (Reg.index_of_ofIndex h).symm⟩

/-- The indices that are not reserved (10_state.md R22). -/
theorem Reg.index_range (r : Reg) :
    r.index.toNat ≤ 0x0D ∨ (0x20 ≤ r.index.toNat ∧ r.index.toNat < 0x36) ∨
      (0x40 ≤ r.index.toNat ∧ r.index.toNat < 0x56) ∨ (0x60 ≤ r.index.toNat ∧ r.index.toNat < 0x76) := by
  cases r
  case cmdPayload i | rspPayload i | repPayload i =>
    simp only [Reg.index, BitVec.toNat_ofNat]
    omega
  all_goals decide

theorem Reg.ofIndex_cmdPayload {x : Byte} (h : 0x20 ≤ x.toNat ∧ x.toNat < 0x36) :
    Reg.ofIndex x = some (.cmdPayload ⟨x.toNat - 0x20, by omega⟩) := dif_pos h

/-- A reserved index names no register (10_state.md R22). -/
theorem Reg.ofIndex_reserved {x : Byte}
    (h : (0x0E ≤ x.toNat ∧ x.toNat ≤ 0x1F) ∨ (0x36 ≤ x.toNat ∧ x.toNat ≤ 0x3F) ∨
      (0x56 ≤ x.toNat ∧ x.toNat ≤ 0x5F) ∨ (0x76 ≤ x.toNat ∧ x.toNat ≤ 0xFF)) : Reg.ofIndex x = none := by
  cases hr : Reg.ofIndex x with
  | none => rfl
  | some r =>
    obtain rfl := Reg.index_of_ofIndex hr
    have := r.index_range
    omega

/-! ### Reads and writes by index -/

/-- A host access to the register `r` by its index. -/
theorem readIndex_index (s : State) (r : Reg) : readIndex s r.index = readReg s r := by
  simp only [readIndex, Reg.ofIndex_index]

theorem readIndex_reserved (s : State) {x : Byte} (h : Reg.ofIndex x = none) : readIndex s x = 0 := by
  simp only [readIndex, h]

/-- A host write at any index but that of OP, as one update of the four writable registers (10_state.md R23). -/
theorem writeIndex_eq (s : State) {x : Byte} (hx : x ≠ Reg.op.index) (v : Nat) :
    writeIndex s x v = { s with
      cmdType := if x = 0x02 then BitVec.ofNat 8 v else s.cmdType
      cmdLen := if x = 0x03 then BitVec.ofNat 8 v else s.cmdLen
      crcDin := if x = 0x04 then BitVec.ofNat 8 v else s.crcDin
      cmdPayload :=
        if h : 0x20 ≤ x.toNat ∧ x.toNat < 0x36 then s.cmdPayload.set (x.toNat - 0x20) (BitVec.ofNat 8 v) (by omega)
        else s.cmdPayload } := by
  have h2 : x = 2#8 ↔ Reg.ofIndex x = some .cmdType := Reg.eq_index_iff (r := .cmdType)
  have h3 : x = 3#8 ↔ Reg.ofIndex x = some .cmdLen := Reg.eq_index_iff (r := .cmdLen)
  have h4 : x = 4#8 ↔ Reg.ofIndex x = some .crcDin := Reg.eq_index_iff (r := .crcDin)
  by_cases hp : 0x20 ≤ x.toNat ∧ x.toNat < 0x36
  · simp [writeIndex, writeReg, h2, h3, h4, hp, Reg.ofIndex_cmdPayload hp]
  · cases hr : Reg.ofIndex x with
    | none => simp [writeIndex, h2, h3, h4, hp, hr]
    | some r =>
      cases r
      case op => exact absurd (Reg.index_of_ofIndex hr).symm hx
      case cmdPayload i =>
        have hx := congrArg BitVec.toNat (Reg.index_of_ofIndex hr)
        simp only [Reg.index, BitVec.toNat_ofNat] at hx
        omega
      all_goals simp [writeIndex, writeReg, h2, h3, h4, hp, hr]

/-- The host's turn at a write to a register other than OP. -/
theorem step_host_write {s : State} {x : Byte} {v : Nat} {rest : List HostAccess} (hn : nextTurn s = some .host)
    (hh : s.env.host = .wr x v :: rest) (hx : x ≠ Reg.op.index) :
    step s = .next (writeIndex s.popTurn.popHost x v) := by
  simp only [step, hn, hostTurn, State.popTurn_env, hh, hx, if_false]

theorem step_host_op {s : State} {v : Nat} {rest : List HostAccess} (hn : nextTurn s = some .host)
    (hh : s.env.host = .wr Reg.op.index v :: rest) :
    step s = exec (decodeOperation (BitVec.ofNat 8 v)) (s.popTurn.fetchOp v) := by
  simp only [step, hn, hostTurn, State.popTurn_env, hh, if_true]

theorem step_host_read {s : State} {x : Byte} {rest : List HostAccess} (hn : nextTurn s = some .host)
    (hh : s.env.host = .rd x :: rest) : step s = .next (s.popTurn.popHost.noteRead x (readIndex s x)) := by
  simp only [step, hn, hostTurn, State.popTurn_env, hh]
  rfl

/-! ### The layout of STATUS -/

theorem getElem_flagBit (b : Bool) (k : Nat) {j : Nat} (hj : j < 16) : (flagBit b k)[j] = (b && decide (j = k)) := by
  cases b
  case false => simp [flagBit]
  case true =>
    rw [Bool.eq_iff_iff]
    simp [flagBit]
    omega

/-- Bit `j` of STATUS, of all its fields (10_state.md R26). -/
theorem getElem_statusWord (s : State) {j : Nat} (hj : j < 16) : (statusWord s)[j] =
    ((s.status.busy && decide (j = 0)) || (s.status.crcOk && decide (j = 1)) ||
      (s.status.reportValid && decide (j = 2)) || (reportPending s && decide (j = 3)) ||
      (decide (4 ≤ j) && s.status.result.number.getLsbD (j - 4)) || (s.status.dead && decide (j = 8)) ||
      (s.status.qovf && decide (j = 9)) || (s.status.overlap && decide (j = 10))) := by
  have hr : (s.status.result.number.setWidth 16 <<< 4)[j] =
      (decide (4 ≤ j) && s.status.result.number.getLsbD (j - 4)) := by
    by_cases h4 : 4 ≤ j
    · simp [h4, Nat.not_lt.mpr h4]
    · simp [h4, Nat.lt_of_not_le h4]
  simp only [statusWord, BitVec.getElem_or, getElem_flagBit, hr]

theorem statusWord_result (s : State) : (statusWord s).extractLsb' 4 4 = s.status.result.number := by
  ext i hi
  have hj : 4 + i < 16 := by omega
  have hne : 4 + i ≠ 1 ∧ 4 + i ≠ 2 ∧ 4 + i ≠ 3 ∧ 4 + i ≠ 8 ∧ 4 + i ≠ 9 ∧ 4 + i ≠ 10 := by omega
  rw [BitVec.getElem_extractLsb', BitVec.getLsbD_eq_getElem hj, getElem_statusWord s hj]
  simp [hne, BitVec.getLsbD_eq_getElem hi]

theorem statusWord_reserved (s : State) : (statusWord s).extractLsb' 11 5 = 0 := by
  ext i hi
  have hj : 11 + i < 16 := by omega
  have hne : 11 + i ≠ 1 ∧ 11 + i ≠ 2 ∧ 11 + i ≠ 3 ∧ 11 + i ≠ 8 ∧ 11 + i ≠ 9 ∧ 11 + i ≠ 10 := by omega
  have hge : 4 ≤ 11 + i - 4 := by omega
  rw [BitVec.getElem_extractLsb', BitVec.getLsbD_eq_getElem hj, getElem_statusWord s hj]
  simp [hne, BitVec.getLsbD_of_ge _ _ hge]

theorem qcount_toNat (s : State) : (qcount s).toNat = min s.queue.length 0xFFFF := by
  simp only [qcount, BitVec.toNat_ofNat]
  omega

/-- Settles O18: each field is the bits of STATUS that R26 gives it. -/
theorem statusLayoutAndLiveViews : Obligations.StatusLayoutAndLiveViews := by
  refine ⟨by decide, fun s => ?_⟩
  refine ⟨?_, ?_, ?_, ?_, statusWord_result s, ?_, ?_, ?_, statusWord_reserved s, qcount_toNat s, ?_, ?_⟩
  all_goals simp [getElem_statusWord, busyOutput, reportPendingOutput, reportPending]

/-! ### The host's accesses -/

/-- Settles O16: the write is one update of the writable registers, and what is reserved reads 0. -/
theorem hostWriteStoresTruncated : Obligations.HostWriteStoresTruncated := by
  refine ⟨fun s x v rest hn hh hx => ?_, fun s => ⟨rfl, statusWord_reserved s⟩, fun s x hx => ?_⟩
  · rw [step_host_write hn hh hx, writeIndex_eq _ hx]
    simp [hh]
  · exact readIndex_reserved s (Reg.ofIndex_reserved hx)

/-- Settles O17: a read is a lookup by index. -/
theorem hostReadHasNoSideEffect : Obligations.HostReadHasNoSideEffect := by
  refine ⟨fun s x rest hn hh => ?_, fun s => ?_⟩
  · rw [step_host_read hn hh]
    simp [State.popTurn, State.popHost, State.noteRead, hh]
  · refine ⟨rfl, rfl, rfl, rfl, rfl, rfl, rfl, rfl, rfl, rfl, rfl, rfl, rfl, fun i => ⟨?_, ?_, ?_⟩⟩
    · exact readIndex_index s (.cmdPayload i)
    · exact readIndex_index s (.rspPayload i)
    · exact readIndex_index s (.repPayload i)

/-! ### A word written to OP -/

theorem typeClass_eq_zero {b : Byte} (h : b.toNat < 0x40) : typeClass b = 0 := by
  apply BitVec.eq_of_toNat_eq
  simp [typeClass, Nat.shiftRight_eq_div_pow]
  omega

/-- A table word below 0x40 is the operation of its byte (log 11). -/
theorem decodeTableWord_operation {b : Byte} (h : b.toNat < 0x40) :
    decodeTableWord 8 b.toNat = some (decodeOperation b) := by
  have hb : (BitVec.ofNat 8 (b.toNat % 2 ^ 8) : Byte) = b := by
    rw [Nat.mod_eq_of_lt b.isLt, BitVec.ofNat_toNat, BitVec.setWidth_eq]
  simp only [decodeTableWord, hb, typeClass_eq_zero h, if_true]
  rfl

/-- Such a word is placed as the host's next write of OP. -/
theorem withFetchWord_operation (s : State) {b : Byte} (h : b.toNat < 0x40) :
    s.withFetchWord 8 b.toNat = s.placeOpWord b.toNat := by
  have hs := decodeOperation_space b
  simp only [State.withFetchWord, decodeTableWord_operation h]
  split
  · rename_i hi
    rw [Option.some.inj hi] at hs
    cases hs
  · rename_i hi
    rw [Option.some.inj hi] at hs
    rw [if_neg (by rw [hs]; nofun), Nat.mod_eq_of_lt b.isLt]
  · rename_i hi
    cases hi

/-- Settles O21: the write of OP is fetched, and a table word below 0x40 is placed as such a write. -/
theorem stepRunsHostOperation : Obligations.StepRunsHostOperation := by
  refine ⟨fun s v rest hn hh => ?_, fun s b hb => ?_⟩
  · rw [step_host_op hn hh]
    simp [State.popTurn, State.popHost, State.fetchOp, hh]
  · rw [withFetchWord_operation s hb, step_host_op (s := s.placeOpWord b.toNat) rfl rfl, BitVec.ofNat_toNat,
      BitVec.setWidth_eq]
    simp [State.placeOpWord, State.popTurn, State.popHost, State.fetchOp]

end Sys2Proof.Machine
end

section
/-! The transport streams: a turn of the host leaves them alone, and a turn of the core does at most one transfer (O59). -/

namespace Sys2Proof.Machine

/-! ### What the host's turn leaves alone -/

/-- No transport answer is used, nothing is consumed and nothing is sent. -/
structure SameStreams (s t : State) : Prop where
  rx : t.env.rx = s.env.rx
  consumed : t.env.consumed = s.env.consumed
  tx : t.env.tx = s.env.tx
  sent : t.env.sent = s.env.sent

theorem SameStreams.of_env {s t : State} (h : t.env = s.env) : SameStreams s t := by
  constructor <;> rw [h]

/-- RxNonEmpty consumes nothing from the stream (20_memory.md R65). -/
theorem State.askedRxNonEmpty_sameStreams (s : State) : SameStreams s s.askedRxNonEmpty := by
  unfold State.askedRxNonEmpty
  split <;> exact ⟨rfl, rfl, rfl, rfl⟩

theorem execPollReport_sameStreams {s t : State} (h : execPollReport s = .next t) : SameStreams s t := by
  obtain rfl := Host.Outcome.next.inj h
  obtain ⟨hrx, hconsumed, htx, hsent⟩ := s.askedRxNonEmpty_sameStreams
  cases hb : s.status.busy
  case true =>
    rw [State.issue_busy hb]
    exact .of_env rfl
  case false =>
    rw [State.issue_idle hb]
    split
    · exact .of_env rfl
    · split
      · exact .of_env rfl
      · split <;> exact ⟨hrx, hconsumed, htx, hsent⟩

/-- The issue of an operation, or its overlap fault, is no transfer: of the operations POLL_REPORT alone asks a transport,
and only whether a byte is there. -/
theorem exec_operation_sameStreams {i : Instr} (hi : i.space 0 = .operation) {s t : State} (h : exec i s = .next t) :
    SameStreams s t := by
  by_cases hpoll : i = .pollReport
  · subst hpoll
    exact execPollReport_sameStreams h
  · rcases exec_operation_cases hi h with ⟨-, rfl⟩ | ⟨-, he⟩
    · exact .of_env rfl
    · cases he with
      | atOnce | send | receive | transact => exact .of_env rfl
      | dequeues | pollCompletes | polls => exact absurd rfl hpoll

theorem hostTurn_sameStreams {s t : State} (h : hostTurn s = .next t) : SameStreams s t := by
  rcases hostTurn_cases s with ⟨-, e⟩ | ⟨v, _, -, e⟩ | ⟨x, v, _, -, -, e⟩ | ⟨x, _, -, e⟩ | ⟨_, -, e⟩ | ⟨_, -, e⟩ <;>
    rw [e] at h
  · cases h
    exact .of_env rfl
  · obtain ⟨hrx, hconsumed, htx, hsent⟩ := exec_operation_sameStreams (decodeOperation_space _) h
    exact ⟨hrx, hconsumed, htx, hsent⟩
  · cases h
    constructor <;> rw [writeIndex_env] <;> rfl
  · cases h
    exact ⟨rfl, rfl, rfl, rfl⟩
  · split at h <;> cases h <;> exact ⟨rfl, rfl, rfl, rfl⟩
  · cases h
    exact ⟨rfl, rfl, rfl, rfl⟩

/-! ### The transfer of a core's turn -/

/-- What the core's turn can do to the agents: nothing, or one transfer (20_memory.md R63, R64, R69). -/
inductive Transfer (s : State) : Env → Prop
  | none : Transfer s s.env
  | receives {b : Byte} {rest : List RxAnswer} (hr : s.env.rx = .byte b :: rest) :
    Transfer s { s.env with rx := rest, consumed := s.env.consumed ++ [b] }
  | receiveFails {rest : List RxAnswer} (hr : s.env.rx = .fail :: rest) : Transfer s { s.env with rx := rest }
  | sends {i : Nat} {rest : List TxAnswer} (hp : s.phase = .tx i) (ht : s.env.tx = .ok :: rest) :
    Transfer s { s.env with tx := rest, sent := s.env.sent ++ [s.txbuf.getD i 0] }
  | sendFails {i : Nat} {reached : Bool} {rest : List TxAnswer} (hp : s.phase = .tx i)
    (ht : s.env.tx = .fail reached :: rest) :
    Transfer s { s.env with
      tx := rest, sent := s.env.sent ++ if reached then [s.txbuf.getD i 0] else [] }

/-- A byte answered at a reader's phase is consumed, whatever the operation in flight makes of it. -/
theorem coreTakes_env (b : Byte) (s : State) : (coreTakes b s).env = (s.takeByte b).env := by
  unfold coreTakes
  split
  · exact gotFrame_env ..
  · exact State.rxByte_env ..

/-- A transmit phase offers the byte of `txbuf` that it names (41_codec.md R153). -/
theorem State.txByte_transfer {s : State} {i : Nat} (hp : s.phase = .tx i) :
    Transfer s (s.txByte i (s.txbuf.getD i 0)).env := by
  rcases s.txByte_cases i (s.txbuf.getD i 0) with ⟨-, e⟩ | ⟨rest, ht, -, e⟩ | ⟨rest, ht, -, e⟩ | ⟨reached, rest, ht, e⟩ <;>
    rw [e]
  · exact .none
  · simpa [ht] using Transfer.sends hp ht
  · simpa [State.sentAll_env, ht] using Transfer.sends hp ht
  · cases reached <;> simpa [ht] using Transfer.sendFails hp ht

theorem coreMove_transfer (s : State) : Transfer s (coreMove s).env := by
  unfold coreMove
  split
  · exact .none
  · exact State.txByte_transfer ‹_›
  · split
    · exact .none
    · rename_i rest hr
      simpa [State.rxFail_env, hr] using Transfer.receiveFails hr
    · rename_i b rest hr
      simpa [coreTakes_env, hr] using Transfer.receives hr

theorem coreTurn_transfer {s t : State} (h : coreTurn s = .next t) : Transfer s t.env := by
  rw [coreTurn_eq] at h
  split at h <;> cases h
  exact coreMove_transfer s

/-- Settles O59: the host's turn leaves the streams alone, and the core's turn does at most one transfer. -/
theorem oneTransferInOrderPerStep : Obligations.OneTransferInOrderPerStep := by
  intro s t h
  rcases step_cases s with ⟨-, e⟩ | ⟨-, e⟩ | ⟨-, e⟩ <;> rw [e] at h
  · cases h
    exact .inl ⟨rfl, rfl, rfl, rfl⟩
  · obtain ⟨hrx, hconsumed, htx, hsent⟩ := hostTurn_sameStreams h
    exact .inl ⟨hrx, hconsumed, htx, hsent⟩
  · have hc := coreTurn_transfer h
    generalize t.env = e at hc ⊢
    cases hc with
    | none => exact .inl ⟨rfl, rfl, rfl, rfl⟩
    | receives hr => exact .inr (.inl ⟨_, hr, rfl, rfl, rfl⟩)
    | receiveFails hr => exact .inr (.inr (.inl ⟨hr, rfl, rfl, rfl⟩))
    | sends hp ht => exact .inr (.inr (.inr ⟨_, hp, rfl, rfl, .inl ⟨ht, rfl⟩⟩))
    | sendFails hp ht => exact .inr (.inr (.inr ⟨_, hp, rfl, rfl, .inr ⟨_, ht, rfl⟩⟩))

end Sys2Proof.Machine
end

section
/-! The encodings: what each decoder does with the bytes of a row, and what the bytes it accepts are (O9 to O13). -/

namespace Sys2Proof

/-! ### Host operation words (30_encoding.md R89, R90) -/

theorem decodeOperation_illegal {b : Byte} (h : 0x0B ≤ b.toNat) : decodeOperation b = .illegal b := by
  unfold decodeOperation
  split
  case h_12 => rfl
  all_goals omega

theorem encode_decodeOperation (b : Byte) : encode (decodeOperation b) = [b] := by
  unfold decodeOperation
  split
  case h_12 => rfl
  all_goals
    rename_i hb
    exact congrArg (fun x => [x]) (BitVec.eq_of_toNat_eq hb.symm)

/-- The space of an operation word names no sent code. -/
theorem decodeOperation_space_sent (sent : Code) (b : Byte) : (decodeOperation b).space sent = .operation := by
  unfold decodeOperation
  split <;> rfl

theorem decodeOperation_wellFormed (sent : Code) (b : Byte) : (decodeOperation b).wellFormed sent = true := by
  unfold decodeOperation
  split
  case h_12 =>
    apply decide_eq_true
    simp only [imp_false] at *
    omega
  all_goals rfl

/-! ### Received type bytes (30_encoding.md R92) -/

theorem decodeReceivedType_own_normal (sent : Code) :
    decodeReceivedType sent (mkType 0b01 sent) = .rxNormal sent := by
  simp [decodeReceivedType]

theorem decodeReceivedType_own_error (sent : Code) :
    decodeReceivedType sent (mkType 0b11 sent) = .rxError sent := by
  simp [decodeReceivedType]

theorem decodeReceivedType_other_normal {sent k : Code} (h : k ≠ sent) :
    decodeReceivedType sent (mkType 0b01 k) = .rxForeign01 k := by
  simp [decodeReceivedType, beq_false_of_ne h]

theorem decodeReceivedType_other_error {sent k : Code} (h : k ≠ sent) :
    decodeReceivedType sent (mkType 0b11 k) = .rxForeign11 k := by
  simp [decodeReceivedType, beq_false_of_ne h]

theorem decodeReceivedType_report (sent k : Code) :
    decodeReceivedType sent (mkType 0b10 k) = .rxReport k := by
  simp [decodeReceivedType]

theorem decodeReceivedType_command (sent k : Code) :
    decodeReceivedType sent (mkType 0b00 k) = .rxForeign00 k := by
  simp [decodeReceivedType]

theorem encode_decodeReceivedType (sent : Code) (t : Byte) : encode (decodeReceivedType sent t) = [t] := by
  rcases Machine.decodeReceivedType_cases sent t with ⟨hc, -, hd⟩ | ⟨hc, -, hd⟩ | ⟨hc, -, hd⟩ | ⟨hc, -, hd⟩ |
    ⟨hc, -, hd⟩ | ⟨hc, -, hd⟩ <;>
    exact hd ▸ congrArg (fun x => [x]) (Machine.mkType_of_class hc)

theorem decodeReceivedType_space (sent : Code) (t : Byte) :
    (decodeReceivedType sent t).space sent = .receivedType sent := by
  unfold decodeReceivedType
  split <;> rfl

theorem decodeReceivedType_wellFormed (sent : Code) (t : Byte) :
    (decodeReceivedType sent t).wellFormed sent = true := by
  unfold decodeReceivedType
  split <;> simp_all [Instr.wellFormed]

/-! ### Sent type bytes (30_encoding.md R94) -/

theorem decodeSentType_mkType (k : Code) : decodeSentType (mkType 0b00 k) = .ok (.txCommandType k) := by
  simp [decodeSentType]

theorem decodeSentType_eq_ok {t : Byte} {i : Instr} (h : decodeSentType t = .ok i) :
    typeClass t = 0b00 ∧ i = .txCommandType (typeCode t) := by
  unfold decodeSentType at h
  split at h <;> cases h
  exact ⟨‹_›, rfl⟩

/-! ### Wire frames (30_encoding.md R80, R81, R84) -/

theorem decodeFrame_badLength (t : Byte) {n : Byte} (rest : List Byte) (h : maxPayload < n.toNat) :
    decodeFrame (t :: n :: rest) = .error (.badLength n) := if_pos h

/-- With fewer than two bytes after the payload there is no CRC pair. -/
theorem decodeFrame_truncated (t : Byte) {n : Byte} {rest : List Byte} (hn : n.toNat ≤ maxPayload)
    (hr : rest.length < n.toNat + 2) : decodeFrame (t :: n :: rest) = .error .truncated := by
  have hd : (rest.drop n.toNat).length < 2 := by simp only [List.length_drop]; omega
  rw [decodeFrame, if_neg (Nat.not_lt.mpr hn)]
  match rest.drop n.toNat, hd with
  | [], _ => rfl
  | [_], _ => rfl

theorem frameBytes_eq_cons (t : Byte) (p : List Byte) (c : Word) :
    frameBytes t p c = t :: lengthByte p :: (p ++ [crcLow c, crcHigh c]) := rfl

theorem decodeFrame_frameBytes (t : Byte) {p : List Byte} (hp : p.length ≤ maxPayload) (c : Word) :
    decodeFrame (frameBytes t p c) = .ok (.frame t p c) := by
  simp [frameBytes_eq_cons, decodeFrame, lengthByte_toNat hp, Nat.not_lt.mpr hp]

theorem decodeFrame_take_frameBytes (t : Byte) {p : List Byte} (hp : p.length ≤ maxPayload) (c : Word) {k : Nat}
    (hk : k < 4 + p.length) : decodeFrame ((frameBytes t p c).take k) = .error .truncated := by
  rw [frameBytes_eq_cons]
  match k with
  | 0 => rfl
  | 1 => rfl
  | k + 2 =>
    apply decodeFrame_truncated t (n := lengthByte p)
    · exact (lengthByte_toNat hp).trans_le hp
    · rw [lengthByte_toNat hp]
      exact (List.length_take_le ..).trans_lt (by omega)

/-- A list whose two bytes after the first `n` end it is that payload and its CRC pair. -/
theorem frameBytes_of_drop {n lo hi : Byte} {rest : List Byte} (t : Byte) (h : rest.drop n.toNat = [lo, hi]) :
    frameBytes t (rest.take n.toNat) (crcJoin lo hi) = t :: n :: rest := by
  have hlen := congrArg List.length h
  simp only [List.length_drop, List.length_cons, List.length_nil] at hlen
  have hn : lengthByte (rest.take n.toNat) = n := by
    rw [lengthByte, List.length_take_of_le (by omega), BitVec.ofNat_toNat, BitVec.setWidth_eq]
  rw [frameBytes_eq_cons, hn, crcLow_crcJoin, crcHigh_crcJoin, ← h, List.take_append_drop]

theorem decodeFrame_eq_ok {l : List Byte} {i : Instr} (h : decodeFrame l = .ok i) :
    ∃ t p c, i = .frame t p c ∧ p.length ≤ maxPayload ∧ frameBytes t p c = l := by
  unfold decodeFrame at h
  split at h
  · rename_i t n rest
    split at h
    · cases h
    · split at h <;> cases h
      rename_i hn _ lo hi hd
      exact ⟨t, _, _, rfl, (List.length_take_le ..).trans (Nat.not_lt.mp hn), frameBytes_of_drop t hd⟩
  · cases h

/-! ### The decoders and the encoder -/

/-- Settles O9, by the row: an operation word, a received type byte, the sent type byte, or a frame. -/
theorem decodeOfEncode : Obligations.DecodeOfEncode := by
  intro sent i hw
  cases i with
  | nop | crcInit | crcByte | crcFinal | crcFrame | checkCrc | send | receive | classify | transact | pollReport => rfl
  | illegal b => exact congrArg Except.ok (decodeOperation_illegal (of_decide_eq_true hw))
  | rxNormal k =>
    obtain rfl : k = sent := eq_of_beq hw
    exact congrArg Except.ok (decodeReceivedType_own_normal k)
  | rxError k =>
    obtain rfl : k = sent := eq_of_beq hw
    exact congrArg Except.ok (decodeReceivedType_own_error k)
  | rxReport k => exact congrArg Except.ok (decodeReceivedType_report sent k)
  | rxForeign01 k => exact congrArg Except.ok (decodeReceivedType_other_normal (bne_iff_ne.mp hw))
  | rxForeign11 k => exact congrArg Except.ok (decodeReceivedType_other_error (bne_iff_ne.mp hw))
  | rxForeign00 k => exact congrArg Except.ok (decodeReceivedType_command sent k)
  | txCommandType k => exact decodeSentType_mkType k
  | frame t p c => exact decodeFrame_frameBytes t (of_decide_eq_true hw) c

theorem decode_operation_eq_ok {l : List Byte} {i : Instr} (h : decode .operation l = .ok i) :
    ∃ b, l = [b] ∧ i = decodeOperation b := by
  match l, h with
  | [b], h => exact ⟨b, rfl, (Except.ok.inj h).symm⟩

theorem decode_receivedType_eq_ok {sent : Code} {l : List Byte} {i : Instr}
    (h : decode (.receivedType sent) l = .ok i) : ∃ t, l = [t] ∧ i = decodeReceivedType sent t := by
  match l, h with
  | [t], h => exact ⟨t, rfl, (Except.ok.inj h).symm⟩

theorem decode_sentType_eq_ok {l : List Byte} {i : Instr} (h : decode .sentType l = .ok i) :
    ∃ t, l = [t] ∧ typeClass t = 0b00 ∧ i = .txCommandType (typeCode t) := by
  match l, h with
  | [t], h => exact ⟨t, rfl, decodeSentType_eq_ok h⟩

/-- Settles O10, by the space: what its decoder accepts is the row that the bytes were made from. -/
theorem encodeOfDecode : Obligations.EncodeOfDecode := by
  intro sent sp l i hsent h
  cases sp with
  | operation =>
    obtain ⟨b, rfl, rfl⟩ := decode_operation_eq_ok h
    exact ⟨encode_decodeOperation b, decodeOperation_space_sent sent b, decodeOperation_wellFormed sent b⟩
  | receivedType k =>
    obtain rfl := hsent k rfl
    obtain ⟨t, rfl, rfl⟩ := decode_receivedType_eq_ok h
    exact ⟨encode_decodeReceivedType k t, decodeReceivedType_space k t, decodeReceivedType_wellFormed k t⟩
  | sentType =>
    obtain ⟨t, rfl, hc, rfl⟩ := decode_sentType_eq_ok h
    exact ⟨congrArg (fun x => [x]) (Machine.mkType_of_class hc), rfl, rfl⟩
  | wireFrame =>
    obtain ⟨t, p, c, rfl, hp, rfl⟩ := decodeFrame_eq_ok h
    exact ⟨rfl, rfl, decide_eq_true hp⟩

/-- Settles O11: the row is the one the decoder answers, and any other of the same byte would decode to it. -/
theorem receivedTypeRowsTotalDisjoint : Obligations.ReceivedTypeRowsTotalDisjoint := by
  intro sent t
  refine ⟨decodeReceivedType sent t, decodeReceivedType_space sent t, decodeReceivedType_wellFormed sent t,
    encode_decodeReceivedType sent t, fun j hspace hwf henc => ?_⟩
  have hj : decode (.receivedType sent) [t] = .ok j := by
    rw [← hspace, ← henc]
    exact decodeOfEncode sent j hwf
  exact (Except.ok.inj hj).symm

/-- Settles O12: the length byte is checked first, and a frame cut short lacks a byte of its CRC pair. -/
theorem frameDecodeRejectsBadBytes : Obligations.FrameDecodeRejectsBadBytes :=
  ⟨fun t _ rest hn => decodeFrame_badLength t rest hn, fun t _ c _ hp hk => decodeFrame_take_frameBytes t hp c hk⟩

/-- Settles O13: closed words, each evaluated by its decoder. -/
theorem decodesWrittenWords : Obligations.DecodesWrittenWords := by
  unfold Obligations.DecodesWrittenWords
  decide

end Sys2Proof
end

section
/-! The assembler's pseudo-instructions, WAIT, and the type byte a command is sent with (O15, O19, O22, O31, O34). -/

namespace Sys2Proof.Machine

/-! ### The assembler (30_encoding.md R95, R96) -/

@[simp] theorem programAccesses_singleton (st : Stmt) : programAccesses [st] = st.accesses := by
  simp [programAccesses]

@[simp] theorem programEncoding_singleton (st : Stmt) :
    programEncoding [st] = st.accesses.filterMap HostAccess.asWrite := by
  simp [programEncoding]

theorem loadcmdAccesses_eq (t : Byte) {p : List Byte} (hp : p.length ≤ 22) : loadcmdAccesses t p =
    [.wr 0x02 t.toNat, .wr 0x03 p.length] ++ p.mapIdx fun k b => .wr (BitVec.ofNat 8 (0x20 + k)) b.toNat := by
  rw [loadcmdAccesses, payloadWrites_eq p 0 (by omega)]
  simp only [Nat.zero_add]
  rfl

theorem loadcmdAccesses_asWrite (t : Byte) {p : List Byte} (hp : p.length ≤ 22) :
    (loadcmdAccesses t p).filterMap HostAccess.asWrite =
      [(0x02, t.toNat), (0x03, p.length)] ++ p.mapIdx fun k b => (BitVec.ofNat 8 (0x20 + k), b.toNat) := by
  rw [loadcmdAccesses_eq t hp, List.filterMap_append, filterMap_asWrite_mapIdx]
  rfl

/-- XACT and SENDF are LOADCMD, the write of their operation's opcode to OP, and WAIT. -/
theorem loadcmd_then_accesses (t : Byte) (p : List Byte) :
    Stmt.accesses (.xact t p) = Stmt.accesses (.loadcmd t p) ++ [.wr 0x00 0x09, .wait] ∧
    Stmt.accesses (.sendf t p) = Stmt.accesses (.loadcmd t p) ++ [.wr 0x00 0x06, .wait] :=
  ⟨List.append_assoc .., List.append_assoc ..⟩

/-- Settles O15: an expansion is LOADCMD's writes, the write of an operation's opcode after its operand, and WAIT. -/
theorem pseudoInstructionExpansion : Obligations.PseudoInstructionExpansion := by
  refine ⟨fun t p hp => ?_, fun c p _ => ?_, fun b => ⟨rfl, rfl⟩, fun t p _ => ?_, rfl, rfl, rfl, rfl⟩
  · exact ⟨(programAccesses_singleton _).trans (loadcmdAccesses_eq t hp),
      (programEncoding_singleton _).trans (loadcmdAccesses_asWrite t hp)⟩
  · simp [(loadcmd_then_accesses c p).1]
  · simp [(loadcmd_then_accesses t p).2]

/-! ### WAIT (30_encoding.md R95) -/

theorem step_host_wait {s : State} {rest : List HostAccess} (hn : nextTurn s = some .host)
    (hh : s.env.host = .wait :: rest) :
    step s = .next (if s.status.busy then s.popTurn else s.popTurn.popHost) := by
  simp only [step, hn, hostTurn, State.popTurn_env, hh, State.popTurn_status]
  exact (apply_ite ..).symm

/-- Settles O19, by BUSY. -/
theorem waitHoldsWhileBusy : Obligations.WaitHoldsWhileBusy := by
  intro s rest hn hh
  rw [step_host_wait hn hh]
  cases s.status.busy
  · simp [State.popTurn, State.popHost, hh]
  · rfl

/-! ### The rows that the core's step runs (30_encoding.md R92, R94) -/

theorem strayPhase_rxCrcHi {s : State} (hp : s.phase = .rxCrcHi) (ho : s.opk ≠ .send) : strayPhase s = false := by
  simp only [strayPhase, hp, ho, decide_false]

/-- The last byte of a frame is latched, and then the row runs that the latched state names. -/
theorem coreByte_rxCrcHi {s : State} (hp : s.phase = .rxCrcHi) (b : Byte) :
    coreByte b s = exec (receivedInstr { s.takeByte b with rHi := b }) { s.takeByte b with rHi := b } := by
  simp [coreByte, hp, State.rxByte]

/-- The type byte of a TRANSACT is the row of its code. -/
theorem coreTurn_commandType {s : State} {k : Code} {more : List Byte} (hp : s.phase = .tx 0) (ho : s.opk = .transact)
    (hb : s.txbuf = mkType 0b00 k :: more) : coreTurn s = exec (.txCommandType k) s := by
  have hs : strayPhase s = false := by simp [strayPhase, hp, ho, hb]
  have hi : sentInstr s 0 (mkType 0b00 k) = some (.txCommandType k) := by
    rw [sentInstr, if_pos ⟨rfl, ho⟩, decodeSentType_mkType]
  simp only [coreTurn, hs, hp, hb, List.getD_cons_zero, hi]
  rfl

/-- Settles O22: at the last byte of a frame and at the first byte of a TRANSACT the core's turn runs the row. -/
theorem stepRunsWireRow : Obligations.StepRunsWireRow := by
  refine ⟨fun s b rest hn hp ho hr => ?_, fun s k more hn hp ho hb => ?_⟩
  · rw [step_core_byte hn (strayPhase_rxCrcHi hp ho) (by simp [hp]) (by simp [hp]) hr,
      coreByte_rxCrcHi (s := s.popTurn) hp]
    simp [receivedInstr, State.latchedCrc, State.popTurn, State.takeByte, hr]
  · rw [step, hn]
    exact coreTurn_commandType (s := s.popTurn) hp ho hb

/-! ### The type byte a command is sent with (30_encoding.md R94) -/

/-- The class bits of CMD_TYPE are sent as zero. -/
theorem mkType_zero_typeCode (t : Byte) : mkType 0b00 (typeCode t) = t &&& 0x3F := by
  apply BitVec.eq_of_toNat_eq
  have hmask : t.toNat &&& (0x3F : Byte).toNat = t.toNat % 2 ^ 6 := Nat.and_two_pow_sub_one_eq_mod t.toNat 6
  rw [mkType_zero, BitVec.toNat_setWidth, typeCode, BitVec.extractLsb'_toNat, BitVec.toNat_and, hmask,
    Nat.shiftRight_zero]
  omega

theorem cmdLenIllegal_eq_false {s : State} (h : s.cmdLen.toNat ≤ 22) : s.cmdLenIllegal = false :=
  decide_eq_false (Nat.not_lt.mpr h)

theorem exec_send_latches {s : State} (hb : s.status.busy = false) (hl : s.cmdLen.toNat ≤ 22) :
    exec .send s = .next (s.startWrite .send (encodeFrame s.cmdType s.cmdBytes)) := by
  simp [exec, execSend, State.issue_idle hb, cmdLenIllegal_eq_false hl]

theorem exec_transact_latches {s : State} (hb : s.status.busy = false) (hl : s.cmdLen.toNat ≤ 22)
    (hd : s.status.dead = false) : exec .transact s = .next
      { s.startWrite .transact (encodeFrame (mkType 0b00 s.cmdCode) s.cmdBytes) with scode := s.cmdCode } := by
  simp [exec, execTransact, State.issue_idle hb, cmdLenIllegal_eq_false hl, hd]

theorem encodeFrame_head? (t : Byte) (p : List Byte) : (encodeFrame t p).head? = some t := rfl

/-- Settles O31: the frame each operation latches begins with its type byte. -/
theorem sentTypeByteOfTransactAndSend : Obligations.SentTypeByteOfTransactAndSend := by
  intro s hb hl
  refine ⟨fun hd => ⟨_, exec_transact_latches hb hl hd, ?_, rfl⟩, ⟨_, exec_send_latches hb hl, encodeFrame_head? ..⟩⟩
  exact (encodeFrame_head? ..).trans (congrArg some (mkType_zero_typeCode s.cmdType))

/-! ### TX_COMMAND_TYPE (41_codec.md R153; 20_memory.md R63) -/

theorem exec_txCommandType {s : State} (hp : s.phase = .tx 0) (k : Code) :
    exec (.txCommandType k) s = .next (s.txByte 0 (k.setWidth 8)) := by
  simp only [exec, execTxCommandType, hp, if_true, mkType_zero]

/-- Settles O34, by the transport's answer. -/
theorem txCommandTypeSendsFirstByte : Obligations.TxCommandTypeSendsFirstByte := by
  intro s k hp hl
  rw [exec_txCommandType hp]
  refine ⟨fun rest ht => ?_, fun ht => ?_, fun reached rest ht => ?_⟩
  · simp [State.txByte, ht, hl, State.popTx, State.putWire]
  · simp only [State.txByte, ht]
  · cases reached <;> simp [State.txByte, ht, State.popTx, State.putWire, State.finish]

end Sys2Proof.Machine
end

section
/-! The CRC unit: a shift is linear and injective, a byte step splits into the register's high byte and the table's entry
of the low one, and each operation's next state (O1 to O8). -/

namespace Sys2Proof.Machine

/-! ### The CRC shift (40_crc.md R111) -/

theorem crcShift_of_odd {c : Word} (h : c.getLsbD 0 = true) : crcShift c = (c >>> 1) ^^^ 0x8408 := if_pos h

theorem crcShift_of_even {c : Word} (h : c.getLsbD 0 = false) : crcShift c = c >>> 1 :=
  if_neg (Bool.eq_false_iff.mp h)

/-- A bit after a shift is its left neighbour, with the polynomial added where the register was odd. -/
theorem getElem_crcShift (c : Word) {i : Nat} (h : i < 16) :
    (crcShift c)[i] = (c.getLsbD (i + 1) ^^ (c.getLsbD 0 && (0x8408 : Word)[i])) := by
  rw [Nat.add_comm]
  cases hc : c.getLsbD 0
  · rw [crcShift_of_even hc, BitVec.getElem_ushiftRight, Bool.false_and, Bool.xor_false]
  · rw [crcShift_of_odd hc, BitVec.getElem_xor, BitVec.getElem_ushiftRight, Bool.true_and]

/-- The polynomial's top bit shows whether the register was odd, and then every other bit is known. -/
theorem crcShift_injective : Function.Injective crcShift := by
  intro a b h
  have hbit (i : Nat) (hi : i < 16) : (a.getLsbD (i + 1) ^^ (a.getLsbD 0 && (0x8408 : Word)[i])) =
      (b.getLsbD (i + 1) ^^ (b.getLsbD 0 && (0x8408 : Word)[i])) := by
    rw [← getElem_crcShift a hi, ← getElem_crcShift b hi, h]
  have hodd : a.getLsbD 0 = b.getLsbD 0 := by simpa using hbit 15 (by decide)
  apply BitVec.eq_of_getLsbD_eq
  intro i hi
  cases i with
  | zero => exact hodd
  | succ i =>
    have hnext := hbit i (by omega)
    rw [hodd] at hnext
    exact Bool.xor_left_inj.mp hnext

theorem crcShift_xor (a b : Word) : crcShift (a ^^^ b) = crcShift a ^^^ crcShift b := by
  ext i hi
  simp only [getElem_crcShift, BitVec.getElem_xor, BitVec.getLsbD_xor, Bool.and_xor_distrib_right]
  rw [Bool.xor_assoc, Bool.xor_assoc, Bool.xor_left_comm (b.getLsbD (i + 1))]

theorem crcShifts_xor (n : Nat) (a b : Word) : crcShifts n (a ^^^ b) = crcShifts n a ^^^ crcShifts n b := by
  induction n generalizing a b with
  | zero => rfl
  | succ n ih => simp only [crcShifts, crcShift_xor, ih]

theorem crcShifts_injective (n : Nat) : Function.Injective (crcShifts n) := by
  induction n with
  | zero => exact Function.injective_id
  | succ n ih => exact ih.comp crcShift_injective

/-- Zero bits are shifted out without the polynomial. -/
theorem crcShifts_of_low_zero {n : Nat} {c : Word} (h : ∀ i < n, c.getLsbD i = false) : crcShifts n c = c >>> n := by
  induction n generalizing c with
  | zero => exact (BitVec.ushiftRight_zero c).symm
  | succ n ih =>
    have htail : ∀ i < n, (c >>> 1).getLsbD i = false := fun i hi => by
      rw [BitVec.getLsbD_ushiftRight, Nat.add_comm]
      exact h (i + 1) (by omega)
    rw [crcShifts, crcShift_of_even (h 0 (by omega)), ih htail, Nat.add_comm, BitVec.shiftRight_add]

/-! ### The two bytes of the register -/

theorem crcLow_xor (c d : Word) : crcLow (c ^^^ d) = crcLow c ^^^ crcLow d := BitVec.extractLsb'_xor

theorem crcLow_setWidth (b : Byte) : crcLow (b.setWidth 16) = b := by
  rw [crcLow, BitVec.extractLsb'_setWidth_of_le (by omega), BitVec.extractLsb'_eq_self]

theorem crcLow_not (c : Word) : crcLow (~~~c) = ~~~crcLow c := BitVec.extractLsb'_not_of_lt (by omega)

theorem crcHigh_not (c : Word) : crcHigh (~~~c) = ~~~crcHigh c := by
  ext i hi
  have h16 : 8 + i < 16 := by omega
  simp [crcHigh, h16]

theorem setWidth_crcHigh (c : Word) : (crcHigh c).setWidth 16 = c >>> 8 := by
  apply BitVec.eq_of_toNat_eq
  rw [BitVec.toNat_setWidth_of_le (by omega), crcHigh, BitVec.extractLsb'_toNat, BitVec.toNat_ushiftRight]
  exact Nat.mod_eq_of_lt (by omega)

theorem toNat_crcLow (c : Word) : (crcLow c).toNat = (c &&& 0x00FF).toNat := by
  rw [crcLow, BitVec.extractLsb'_toNat, Nat.shiftRight_zero, BitVec.toNat_and]
  exact (Nat.and_two_pow_sub_one_eq_mod c.toNat 8).symm

theorem crcJoin_eq_xor (lo hi : Byte) : crcJoin lo hi = (hi.setWidth 16 <<< 8) ^^^ lo.setWidth 16 := by
  ext i h
  by_cases h8 : i < 8
  · simp [crcJoin, h8]
  · simp [crcJoin, BitVec.getLsbD_of_ge lo i (by omega)]

/-- Eight shifts move the high byte down and the low byte out. -/
theorem crcShifts_crcJoin (lo hi : Byte) :
    crcShifts 8 (crcJoin lo hi) = hi.setWidth 16 ^^^ crcShifts 8 (lo.setWidth 16) := by
  have hlow : ∀ i < 8, (hi.setWidth 16 <<< 8).getLsbD i = false := fun i h => by simp [h]
  have hdown : (hi.setWidth 16 <<< 8) >>> 8 = hi.setWidth 16 := by
    ext i h
    by_cases h8 : i < 8
    · have h16 : 8 + i < 16 := by omega
      simp [h16]
    · simp [BitVec.getLsbD_of_ge hi i (by omega)]
  rw [crcJoin_eq_xor, crcShifts_xor, crcShifts_of_low_zero hlow, hdown]

/-! ### The byte step and the table (40_crc.md R111, R112) -/

theorem crcStep_left_injective (b : Byte) : Function.Injective (crcStep · b) := fun _ _ h =>
  (BitVec.xor_left_inj _).mp (crcShifts_injective 8 h)

theorem crcStep_right_injective (c : Word) : Function.Injective (crcStep c) := by
  intro a b h
  have hword : a.setWidth 16 = b.setWidth 16 := (BitVec.xor_right_inj c).mp (crcShifts_injective 8 h)
  rw [← crcLow_setWidth a, hword, crcLow_setWidth]

theorem crcStep_zero (c : Word) : crcStep c 0x00 = crcShifts 8 c := congrArg (crcShifts 8) BitVec.xor_zero

/-- A byte step is the table-driven one with eight shifts in place of the table. -/
theorem crcStep_eq_high_xor_low (c : Word) (b : Byte) :
    crcStep c b = (crcHigh c).setWidth 16 ^^^ crcShifts 8 ((crcLow c ^^^ b).setWidth 16) := by
  calc crcStep c b
    _ = crcShifts 8 (crcJoin (crcLow c) (crcHigh c) ^^^ b.setWidth 16) := by rw [crcJoin_crcLow_crcHigh, crcStep]
    _ = crcShifts 8 (crcJoin (crcLow c ^^^ b) (crcHigh c)) := by
      rw [crcJoin_eq_xor, crcJoin_eq_xor, BitVec.setWidth_xor, BitVec.xor_assoc]
    _ = (crcHigh c).setWidth 16 ^^^ crcShifts 8 ((crcLow c ^^^ b).setWidth 16) := crcShifts_crcJoin ..

/-- The printed table, entry by entry. -/
theorem crcTable_getD (i : Byte) : crcTable.getD i.toNat 0 = crcStep (i.setWidth 16) 0x00 := by
  revert i; decide +kernel

theorem crcStepT_eq_crcStep (c : Word) (b : Byte) : crcStepT c b = crcStep c b := by
  rw [crcStepT, ← toNat_crcLow, crcTable_getD, crcStep_zero, crcLow_xor, crcLow_setWidth, crcStep_eq_high_xor_low,
    setWidth_crcHigh]

/-- Settles O6: the low byte of the register selects the entry, the high byte is only moved down. -/
theorem crcTableStepEqualsBitStep : Obligations.CrcTableStepEqualsBitStep := by
  refine ⟨by decide +kernel, crcTable_getD, crcStepT_eq_crcStep, fun l => ?_⟩
  rw [funext₂ crcStepT_eq_crcStep]
  rfl

/-! ### The residue (40_crc.md R120) -/

theorem byte_xor_not (b : Byte) : b ^^^ ~~~b = BitVec.allOnes 8 := by
  rw [← BitVec.xor_allOnes, ← BitVec.xor_assoc, BitVec.xor_self, BitVec.zero_xor]

/-- The two bytes of a register's complement, low byte first, leave the residue whatever the register was. -/
theorem crcStep_complement (c : Word) : crcStep (crcStep c (crcLow (~~~c))) (crcHigh (~~~c)) = 0xF0B8 := by
  have hlow : crcStep c (crcLow (~~~c)) = (crcHigh c).setWidth 16 ^^^ crcShifts 8 0x00FF := by
    rw [crcStep_eq_high_xor_low, crcLow_not, byte_xor_not]
    rfl
  calc crcStep (crcStep c (crcLow (~~~c))) (crcHigh (~~~c))
    _ = crcShifts 8 ((crcHigh c ^^^ ~~~crcHigh c).setWidth 16 ^^^ crcShifts 8 0x00FF) := by
      rw [hlow, crcHigh_not, crcStep, BitVec.setWidth_xor, BitVec.xor_assoc, BitVec.xor_assoc,
        BitVec.xor_comm (crcShifts 8 0x00FF)]
    _ = crcShifts 8 ((BitVec.allOnes 8).setWidth 16 ^^^ crcShifts 8 0x00FF) := by rw [byte_xor_not]
    _ = 0xF0B8 := by decide +kernel

/-- Settles O7: the last two bytes of the frame are those of the complement of the register before them. -/
theorem crcResidueOfValidFrame : Obligations.CrcResidueOfValidFrame := by
  refine ⟨fun t p => ?_, rfl⟩
  rw [encodeFrame, frameBytes, crcRegister, List.foldl_append]
  exact crcStep_complement (crcRegister (coveredBytes t p))

/-! ### Changed bytes (40_crc.md R121) -/

theorem foldl_crcStep_injective (l : List Byte) : Function.Injective (l.foldl crcStep) := by
  induction l with
  | nil => exact Function.injective_id
  | cons b l ih => exact ih.comp (crcStep_left_injective b)

/-- Two lists that differ in one byte have different CRCs: no later byte undoes the difference of the registers. -/
theorem crc16_injective_of_one_byte {pre post : List Byte} {a b : Byte}
    (h : crc16 (pre ++ a :: post) = crc16 (pre ++ b :: post)) : a = b := by
  have hreg := BitVec.not_inj.mp h
  simp only [crcRegister, List.foldl_append, List.foldl_cons] at hreg
  exact crcStep_right_injective _ (foldl_crcStep_injective post hreg)

theorem crc16_set_ne {pre p : List Byte} {i : Nat} {b : Byte} (hi : i < p.length) (hb : b ≠ p[i]) :
    crc16 (pre ++ p.set i b) ≠ crc16 (pre ++ p) := by
  intro h
  have hset (x : Byte) : pre ++ p.set i x = (pre ++ p.take i) ++ x :: p.drop (i + 1) := by
    rw [List.set_eq_take_append_cons_drop, if_pos hi, List.append_assoc]
  have hself : crc16 (pre ++ p.set i b) = crc16 (pre ++ p.set i p[i]) := by rw [h, List.set_getElem_self]
  rw [hset, hset] at hself
  exact hb (crc16_injective_of_one_byte hself)

theorem flipBit_ne (b : Byte) {k : Nat} (hk : k < 8) : b ^^^ (1#8 <<< k) ≠ b := by
  intro h
  have hbit := congrArg (BitVec.getLsbD · k) h
  simp [hk] at hbit

/-! ### The payloads that a CRC covers -/

theorem lengthByte_payloadBytes (v : Vector Byte 22) {n : Byte} (hn : n.toNat ≤ 22) : lengthByte (payloadBytes v n) = n := by
  rw [lengthByte, payloadBytes_length, Nat.min_eq_left hn, BitVec.ofNat_toNat, BitVec.setWidth_eq]

theorem payloadBytes_set (v : Vector Byte 22) (n : Byte) (i : Fin 22) (b : Byte) :
    payloadBytes (v.set i b) n = (payloadBytes v n).set i b := by
  rw [payloadBytes, Vector.toList_set, List.take_set, payloadBytes]

/-- What CRC_FRAME covers is what a frame made from the CMD registers covers. -/
theorem coveredBytes_cmd {s : State} (hl : s.cmdLen.toNat ≤ 22) :
    coveredBytes s.cmdType s.cmdBytes = [s.cmdType, s.cmdLen] ++ s.cmdBytes := by
  rw [coveredBytes, State.cmdBytes, lengthByte_payloadBytes _ hl]

/-! ### The operations (40_crc.md R115 to R119) -/

theorem exec_crcFrame {s : State} (hb : s.status.busy = false) :
    exec .crcFrame s = .next (if s.cmdLenIllegal then s.finish .invalidLength
      else { s with crcOut := crc16 ([s.cmdType, s.cmdLen] ++ s.cmdBytes) }.finish .ok) :=
  congrArg Host.Outcome.next (State.issue_idle hb _)

theorem exec_checkCrc {s : State} (hb : s.status.busy = false) :
    exec .checkCrc s = .next ({ s with status := { s.status with
      crcOk := decide (crc16 ([s.rspType, s.rspLen] ++ s.rspBytes) = s.rspCrc) } }.finish .ok) :=
  congrArg Host.Outcome.next (State.issue_idle hb _)

/-- Settles O8: a flipped bit makes another byte, and the CRC tells two frames that differ in one byte apart. -/
theorem checkCrcDetectsPayloadBitFlip : Obligations.CheckCrcDetectsPayloadBitFlip := by
  refine ⟨fun t p i k hi hk => ?_, fun s i k hb hl hi hk hcrc => ?_⟩
  · rw [frameCrc, frameCrc, coveredBytes, coveredBytes, lengthByte, List.length_set]
    exact crc16_set_ne hi (flipBit_ne _ hk)
  · refine ⟨_, exec_checkCrc hb, decide_eq_false ?_, rfl⟩
    have hpos : i.val < (payloadBytes s.rspPayload s.rspLen).length := by rw [payloadBytes_length]; omega
    have hget : (payloadBytes s.rspPayload s.rspLen)[i.val] = s.rspPayload[i] := by simp [payloadBytes]
    simp only [State.rspBytes, payloadBytes_set, hcrc]
    exact crc16_set_ne hpos (hget ▸ flipBit_ne _ hk)

/-- Settles O1: an operation issued while not busy is performed at once. -/
theorem crcInitSetsAccumulator : Obligations.CrcInitSetsAccumulator :=
  ⟨rfl, fun _ hb => congrArg Host.Outcome.next (State.issue_idle hb _)⟩

/-- Settles O2, with the corner values evaluated. -/
theorem crcByteAdvancesAccumulator : Obligations.CrcByteAdvancesAccumulator :=
  ⟨rfl, rfl, by decide +kernel, by decide +kernel, fun _ hb => congrArg Host.Outcome.next (State.issue_idle hb _)⟩

/-- Settles O3, with the check value evaluated. -/
theorem crcFinalComplementsAccumulator : Obligations.CrcFinalComplementsAccumulator :=
  ⟨rfl, by decide +kernel, rfl, rfl, fun _ hb => congrArg Host.Outcome.next (State.issue_idle hb _)⟩

/-- Settles O4, by the legality of CMD_LEN. -/
theorem crcFrameGeneratesCommandCrc : Obligations.CrcFrameGeneratesCommandCrc := by
  refine ⟨rfl, by decide +kernel, rfl, fun s hb => ⟨fun hl => ⟨?_, ?_⟩, fun hl => ?_⟩⟩
  · rw [exec_crcFrame hb, cmdLenIllegal_eq_false hl]
    rfl
  · rw [encodeFrame, frameBytes, frameCrc, coveredBytes_cmd hl]
    rfl
  · rw [exec_crcFrame hb, State.cmdLenIllegal, decide_eq_true hl]
    rfl

/-- Settles O5, with the frame of the example and its changed payload evaluated. -/
theorem checkCrcComparesResponseCrc : Obligations.CheckCrcComparesResponseCrc :=
  ⟨rfl, by decide +kernel, by decide +kernel, by decide +kernel, fun _ hb => exec_checkCrc hb⟩

end Sys2Proof.Machine
end

section
/-! The framer: SEND sends the encoded frame byte by byte, RECEIVE reads a frame byte by byte, each as one step's equation
and as a run (O23, O26, O27, O33, O35, O36, O37, O44, O48, O49). -/

namespace Sys2Proof.Machine

/-! ### Issue (41_codec.md R150 to R152) -/

/-- Settles O23: the issue is performed at once, or is an overlap. -/
theorem nopOnlyCompletes : Obligations.NopOnlyCompletes :=
  ⟨rfl, fun _ => ⟨fun hb => congrArg Host.Outcome.next (State.issue_idle hb _),
    fun hb => congrArg Host.Outcome.next (State.issue_busy hb _)⟩⟩

theorem exec_send_illegalLength {s : State} (hb : s.status.busy = false) (hl : 22 < s.cmdLen.toNat) :
    exec .send s = .next (s.finish .invalidLength) := by
  have hi : s.cmdLenIllegal = true := decide_eq_true hl
  simp [exec, execSend, State.issue_idle hb, hi]

/-- The frame made from the CMD registers, with its length byte as CMD_LEN holds it (41_codec.md R143). -/
theorem encodeFrame_cmd {s : State} (hl : s.cmdLen.toNat ≤ 22) : encodeFrame s.cmdType s.cmdBytes =
    [s.cmdType, s.cmdLen] ++ s.cmdBytes ++
      [crcLow (crc16 ([s.cmdType, s.cmdLen] ++ s.cmdBytes)), crcHigh (crc16 ([s.cmdType, s.cmdLen] ++ s.cmdBytes))] := by
  rw [encodeFrame, frameBytes, frameCrc, coveredBytes_cmd hl]

/-- Settles O26, by the legality of CMD_LEN. -/
theorem sendIssueLatchesFrame : Obligations.SendIssueLatchesFrame := by
  refine fun s hb => ⟨fun hl => ?_, fun hl => exec_send_illegalLength hb hl⟩
  rw [exec_send_latches hb hl, encodeFrame_cmd hl]
  rfl

/-- Settles O27: DEAD is not looked at. -/
theorem receiveIssueStartsReading : Obligations.ReceiveIssueStartsReading :=
  fun _ hb => congrArg Host.Outcome.next (State.issue_idle hb _)

/-! ### One byte sent (41_codec.md R153; 20_memory.md R63) -/

theorem strayPhase_tx {s : State} {i : Nat} (hp : s.phase = .tx i) (hi : i < s.txbuf.length)
    (ho : s.opk = .send ∨ s.opk = .transact) : strayPhase s = false := by
  rcases ho with ho | ho <;> simp [strayPhase, hp, ho, hi]

theorem State.txByte_more {s : State} {i : Nat} {rest : List TxAnswer} (ht : s.env.tx = .ok :: rest)
    (hi : i + 1 < s.txbuf.length) (b : Byte) : s.txByte i b = { s.popTx.putWire b with phase := .tx (i + 1) } := by
  simp [State.txByte, ht, hi]

theorem State.txByte_last {s : State} {i : Nat} {rest : List TxAnswer} (ht : s.env.tx = .ok :: rest)
    (hi : s.txbuf.length ≤ i + 1) (b : Byte) : s.txByte i b = (s.popTx.putWire b).sentAll := by
  simp [State.txByte, ht, Nat.not_lt.mpr hi]

theorem State.txByte_fail {s : State} {reached : Bool} {rest : List TxAnswer} (ht : s.env.tx = .fail reached :: rest)
    (i : Nat) (b : Byte) : s.txByte i b = (if reached then s.popTx.putWire b else s.popTx).finish .ioError := by
  simp only [State.txByte, ht]

theorem State.txByte_hold {s : State} (ht : s.env.tx = []) (i : Nat) (b : Byte) : s.txByte i b = s := by
  simp only [State.txByte, ht]

/-- An accepted byte, and what the operation does after the last one (41_codec.md R151; 42_engine.md R175). -/
theorem State.txByte_ok {s : State} {i : Nat} {rest : List TxAnswer} (ho : s.opk = .send ∨ s.opk = .transact)
    (ht : s.env.tx = .ok :: rest) (b : Byte) : s.txByte i b = { s with
      phase := if i + 1 < s.txbuf.length then .tx (i + 1) else if s.opk = .send then .idle else .rxType
      status := if i + 1 < s.txbuf.length ∨ s.opk = .transact then s.status
        else { s.status with result := .ok, busy := false }
      env := { s.env with tx := rest, sent := s.env.sent ++ [b] } } := by
  by_cases hi : i + 1 < s.txbuf.length
  · simp [State.txByte_more ht hi, hi, ht]
  · rw [State.txByte_last ht (Nat.le_of_not_lt hi)]
    rcases ho with ho | ho
    · rw [State.sentAll_send (s := s.popTx.putWire b) ho]
      simp [State.finish, hi, ho, ht]
    · rw [State.sentAll_transact (s := s.popTx.putWire b) ho]
      simp [hi, ho, ht]

/-- Settles O33, by the transport's answer. -/
theorem transmitByteStep : Obligations.TransmitByteStep := by
  intro s i hn hp hi ho
  rw [step_core_tx hn (strayPhase_tx hp hi ho) hp]
  refine ⟨fun rest ht => ?_, fun reached rest ht => ?_, fun ht => ?_⟩
  · rw [State.txByte_ok (s := s.popTurn) ho ht]
    rfl
  · rw [State.txByte_fail (s := s.popTurn) ht]
    cases reached <;> simp [State.finish, ht]
  · rw [State.txByte_hold (s := s.popTurn) ht]
    rfl

/-! ### One byte read (41_codec.md R145) -/

theorem strayPhase_reading {s : State} (ho : s.opk ≠ .send) (ht : ∀ i, s.phase ≠ .tx i) : strayPhase s = false := by
  cases hp : s.phase
  case tx i => exact absurd hp (ht i)
  all_goals simp [strayPhase, hp, ho]

/-- The core's turn at a receive phase with a byte answered. -/
theorem step_takes {s : State} {b : Byte} {rest : List RxAnswer} (hn : nextTurn s = some .core) (ho : s.opk ≠ .send)
    (hi : s.phase ≠ .idle) (ht : ∀ i, s.phase ≠ .tx i) (hr : s.env.rx = .byte b :: rest) :
    step s = .next (coreTakes b s.popTurn) := by
  rw [step_core_byte hn (strayPhase_reading ho ht) hi ht hr, coreByte_eq]

/-- The same inside a frame, where the byte is not its last. -/
theorem step_takes_inside {s : State} {b : Byte} {rest : List RxAnswer} (hn : nextTurn s = some .core)
    (ho : s.opk ≠ .send) (hi : s.phase ≠ .idle) (ht : ∀ i, s.phase ≠ .tx i) (hc : s.phase ≠ .rxCrcHi)
    (hr : s.env.rx = .byte b :: rest) : step s = .next ((s.popTurn.takeByte b).rxByte b) := by
  rw [step_takes hn ho hi ht hr, coreTakes_inside (s := s.popTurn) hc]

theorem State.popTurn_takeByte {s : State} {b : Byte} {rest : List RxAnswer} (hr : s.env.rx = .byte b :: rest) :
    s.popTurn.takeByte b = { s with env := { s.env with
      rx := rest, consumed := s.env.consumed ++ [b], sched := s.env.sched.tail } } := by
  rw [State.takeByte, State.popTurn_env, hr]
  rfl

/-- Settles O35, by the phase. -/
theorem readerByteStep : Obligations.ReaderByteStep := by
  intro s b rest hn ho hr
  refine ⟨fun hp => ?_, fun hp hb => ?_, fun j hp => ?_, fun hp => ?_⟩
  all_goals rw [step_takes_inside hn ho (by simp [hp]) (by simp [hp]) (by simp [hp]) hr]
  · rw [State.rxByte_rxType (s := s.popTurn.takeByte b) hp, State.popTurn_takeByte hr]
  · rw [State.rxByte_rxLen (s := s.popTurn.takeByte b) hp (Nat.not_lt.mpr hb), State.popTurn_takeByte hr]
  · rw [State.rxByte_rxPay (s := s.popTurn.takeByte b) hp, State.popTurn_takeByte hr]
  · rw [State.rxByte_rxCrcLo (s := s.popTurn.takeByte b) hp, State.popTurn_takeByte hr]

/-! ### How an operation takes the reader's failures (41_codec.md R146, R147, R152; 42_engine.md R175, R180) -/

theorem State.desync_transact {s : State} (ho : s.opk = .transact) : s.desync = s.setDead.finish .desync := by
  simp only [State.desync, ho]

theorem State.desync_pollReport {s : State} (ho : s.opk = .pollReport) :
    s.desync = s.setDead.finishPoll false .desync := by
  simp only [State.desync, ho]

theorem State.badLength_receive {s : State} (ho : s.opk = .receive) : s.badLength = s.finish .invalidPacket := by
  simp only [State.badLength, ho]

theorem State.badLength_engine {s : State} (ho : s.opk = .transact ∨ s.opk = .pollReport) : s.badLength = s.desync := by
  rcases ho with ho | ho <;> simp only [State.badLength, ho]

theorem State.truncated_receive {s : State} (ho : s.opk = .receive) : s.truncated = s.finish .ioError := by
  simp only [State.truncated, ho]

theorem State.truncated_engine {s : State} (ho : s.opk = .transact ∨ s.opk = .pollReport) : s.truncated = s.desync := by
  rcases ho with ho | ho <;> simp only [State.truncated, ho]

theorem State.ioFail_pollReport {s : State} (ho : s.opk = .pollReport) : s.ioFail = s.finishPoll false .ioError := by
  simp only [State.ioFail, ho]

theorem State.ioFail_eq_finish {s : State} (ho : s.opk = .receive ∨ s.opk = .transact) : s.ioFail = s.finish .ioError := by
  rcases ho with ho | ho <;> simp only [State.ioFail, ho]

theorem State.rxFail_first {s : State} (hp : s.phase = .rxType) : s.rxFail = s.ioFail := by
  simp only [State.rxFail, hp]

theorem State.rxFail_later {s : State} (hi : s.phase ≠ .idle) (ht : ∀ i, s.phase ≠ .tx i) (hp : s.phase ≠ .rxType) :
    s.rxFail = s.truncated := by
  cases h : s.phase
  case idle => exact absurd h hi
  case tx i => exact absurd h (ht i)
  case rxType => exact absurd h hp
  all_goals simp only [State.rxFail, h]

/-- Settles O36: the reader stops at the length byte, and the operation completes in the same step. -/
theorem readerRejectsOversizedLength : Obligations.ReaderRejectsOversizedLength := by
  intro s b rest hn hp hr hb
  have hstep (ho : s.opk ≠ .send) : step s = .next { s.popTurn.takeByte b with rLen := b }.badLength := by
    rw [step_takes_inside hn ho (by simp [hp]) (by simp [hp]) (by simp [hp]) hr,
      State.rxByte_badLength (s := s.popTurn.takeByte b) hp hb]
  refine ⟨fun ho => ?_, fun ho => ?_, fun ho => ?_⟩
  all_goals rw [hstep (by simp [ho])]
  · simp [State.badLength_receive, ho, hr, State.finish]
  · simp [State.badLength_engine, State.desync_transact, ho, hr, State.setDead, State.finish]
  · simp [State.badLength_engine, State.desync_pollReport, ho, hr, State.setDead, State.finishPoll, State.finish]

/-- Settles O37: at a frame's first byte a failure is the transport's, after it the frame is truncated. -/
theorem readerFailureOutcome : Obligations.ReaderFailureOutcome := by
  intro s rest hn hr hphase
  have hi : s.phase ≠ .idle := by rintro h; simp [h] at hphase
  have ht : ∀ i, s.phase ≠ .tx i := by rintro i h; simp [h] at hphase
  have hstep (ho : s.opk ≠ .send) : step s = .next s.popTurn.popRx.rxFail :=
    step_core_fail hn (strayPhase_reading ho ht) hi ht hr
  by_cases hp : s.phase = .rxType
  · rw [State.rxFail_first (s := s.popTurn.popRx) hp] at hstep
    refine ⟨fun ho => ?_, fun ho => ?_, fun ho => ?_⟩ <;> rw [hstep (by simp [ho])]
    · simp [State.ioFail_eq_finish, ho, hr, State.finish]
    · simp [State.ioFail_eq_finish, ho, hp, hr, State.finish]
    · simp [State.ioFail_pollReport, ho, hp, hr, State.finishPoll, State.finish]
  · rw [State.rxFail_later (s := s.popTurn.popRx) hi ht hp] at hstep
    refine ⟨fun ho => ?_, fun ho => ?_, fun ho => ?_⟩ <;> rw [hstep (by simp [ho])]
    · simp [State.truncated_receive, ho, hr, State.finish]
    · simp [State.truncated_engine, State.desync_transact, ho, hp, hr, State.setDead, State.finish]
    · simp [State.truncated_engine, State.desync_pollReport, ho, hp, hr, State.setDead, State.finishPoll, State.finish]

/-! ### A whole frame in a RECEIVE (41_codec.md R148, R152) -/

theorem exec_frame {s : State} (hp : s.phase = .rxCrcHi) (t : Byte) (p : List Byte) (c : Word) :
    exec (.frame t p c) s = .next (gotFrame Config.params t p c s) :=
  congrArg Host.Outcome.next (if_pos hp)

theorem gotFrame_receive {R : Type} (P : Params R) {s : State} (ho : s.opk = .receive) (t : Byte) (p : List Byte)
    (c : Word) : gotFrame P t p c s = (s.writeRsp t p c).finish .ok := by
  simp only [gotFrame, ho]

/-- Settles O44: RECEIVE takes the frame without looking at its CRC. -/
theorem frameDeliveredByReceive : Obligations.FrameDeliveredByReceive := by
  intro s t p c _ hp ho
  rw [exec_frame hp, gotFrame_receive _ ho]
  rfl

/-! ### Runs with no turn listed: the core moves first, one byte a step (log 3) -/

theorem nextTurn_core {s : State} (hs : s.env.sched = []) (hi : s.phase ≠ .idle) (ha : TransportAnswers s) :
    nextTurn s = some .core := by
  simp [nextTurn, hs, coreCanMove_of_answers hi ha]

theorem State.popTurn_eq_self {s : State} (hs : s.env.sched = []) : s.popTurn = s := by
  rw [State.popTurn, hs, List.tail_nil, ← hs]

/-- An Idle core with no turn listed acts on the host's write to OP. -/
theorem step_issue {s : State} {v : Nat} {hrest : List HostAccess} (hs : s.env.sched = []) (hp : s.phase = .idle)
    (hh : s.env.host = .wr Reg.op.index v :: hrest) :
    step s = exec (decodeOperation (BitVec.ofNat 8 v)) (s.fetchOp v) := by
  have hn : nextTurn s = some .host := by simp [nextTurn, coreCanMove, hostCanMove, hs, hp, hh]
  rw [step_host_op hn hh, State.popTurn_eq_self hs]

theorem run_append {m : Nat} {s t : State} (h : Host.Core.run Sys2Proof.core m s = .next t) (n : Nat) :
    Host.Core.run Sys2Proof.core (m + n) s = Host.Core.run Sys2Proof.core n t := by
  induction m generalizing s with
  | zero => cases h; rw [Nat.zero_add]
  | succ m ih =>
    cases hs : step s with
    | next u =>
      rw [run_succ hs] at h
      rw [Nat.succ_add, run_succ hs, ih h]
    | fault r =>
      have hf : Sys2Proof.core.step s = .fault r := hs
      simp [Host.Core.run, hf] at h
    | refused r =>
      have hf : Sys2Proof.core.step s = .refused r := hs
      simp [Host.Core.run, hf] at h

/-- With no turn listed the core offers the byte that its transmit phase names. -/
theorem step_tx {s : State} {i : Nat} {a : TxAnswer} {rest : List TxAnswer} (hs : s.env.sched = [])
    (hp : s.phase = .tx i) (hi : i < s.txbuf.length) (ho : s.opk = .send ∨ s.opk = .transact)
    (ht : s.env.tx = a :: rest) : step s = .next (s.txByte i (s.txbuf.getD i 0)) := by
  have hn : nextTurn s = some .core := nextTurn_core hs (by simp [hp]) (by simp [TransportAnswers, hp, ht])
  rw [step_core_tx hn (strayPhase_tx hp hi ho) hp, State.popTurn_eq_self hs]

theorem drop_eq_getD_cons {l : List Byte} {i : Nat} (hi : i < l.length) : l.drop i = l.getD i 0 :: l.drop (i + 1) := by
  rw [List.drop_eq_getElem_cons hi, List.getD_eq_getElem _ _ hi]

/-! ### A SEND from its issue to its completion -/

/-- A transport that accepts every byte takes the rest of `txbuf` from byte `i` on, and the operation goes on
(41_codec.md R153). -/
theorem run_transmits {n : Nat} {s : State} {i : Nat} {rest : List TxAnswer} (hs : s.env.sched = [])
    (hp : s.phase = .tx i) (ho : s.opk = .send ∨ s.opk = .transact) (hl : s.txbuf.length = i + (n + 1))
    (ht : s.env.tx = List.replicate (n + 1) .ok ++ rest) :
    Host.Core.run Sys2Proof.core (n + 1) s = .next { s with env := { s.env with
      tx := rest, sent := s.env.sent ++ s.txbuf.drop i } }.sentAll := by
  induction n generalizing s i with
  | zero =>
    have hstep := step_tx hs hp (by omega) ho ht
    rw [State.txByte_last ht (by omega)] at hstep
    rw [run_succ hstep, drop_eq_getD_cons (by omega), List.drop_eq_nil_of_le (by omega)]
    simp [Host.Core.run, State.popTx, State.putWire, ht]
  | succ n ih =>
    rw [List.replicate_succ, List.cons_append] at ht
    have hstep := step_tx hs hp (by omega) ho ht
    rw [State.txByte_more ht (by omega)] at hstep
    rw [run_succ hstep, ih (s := { s.popTx.putWire (s.txbuf.getD i 0) with phase := .tx (i + 1) }) hs rfl ho
      (by simp only [State.putWire_txbuf, State.popTx_txbuf]; omega) (by simp [ht])]
    rcases ho with ho | ho
    · simp [State.sentAll_send, ho, drop_eq_getD_cons (l := s.txbuf) (i := i) (by omega), State.finish]
    · simp [State.sentAll_transact, ho, drop_eq_getD_cons (l := s.txbuf) (i := i) (by omega)]

/-- Settles O48: the issue latches the frame, and the transport then takes all its bytes. -/
theorem sendRunTransmitsFrame : Obligations.SendRunTransmitsFrame := by
  intro s hrest rest hb hp hl hs hh ht
  have hissue : step s = .next ((s.fetchOp 0x06).startWrite .send (encodeFrame s.cmdType s.cmdBytes)) :=
    (step_issue hs hp hh).trans (exec_send_latches (s := s.fetchOp 0x06) hb hl)
  have hlen : (encodeFrame s.cmdType s.cmdBytes).length = 0 + (3 + s.cmdLen.toNat + 1) := by
    rw [encodeFrame_length, State.cmdBytes, payloadBytes_length]
    omega
  rw [show 4 + s.cmdLen.toNat = 3 + s.cmdLen.toNat + 1 by omega] at ht ⊢
  have hrun := run_transmits (s := (s.fetchOp 0x06).startWrite .send (encodeFrame s.cmdType s.cmdBytes))
    hs rfl (.inl rfl) hlen ht
  rw [Nat.add_comm 1, run_succ hissue, hrun, State.sentAll_send rfl]
  simp [State.startWrite, State.begin, State.finish, State.fetchOp, State.popHost, hh, hp]

/-! ### A RECEIVE from its issue to its completion -/

/-- With no turn listed the core takes the next byte of the stream at every receive phase. -/
theorem step_reads {s : State} {b : Byte} {rest : List RxAnswer} (hs : s.env.sched = []) (ho : s.opk ≠ .send)
    (hi : s.phase ≠ .idle) (ht : ∀ i, s.phase ≠ .tx i) (hr : s.env.rx = .byte b :: rest) :
    step s = .next (coreTakes b s) := by
  have ha : TransportAnswers s := by
    cases hp : s.phase
    case tx i => exact absurd hp (ht i)
    all_goals simp [TransportAnswers, hp, hr]
  rw [step_takes (nextTurn_core hs hi ha) ho hi ht hr, State.popTurn_eq_self hs]

/-- The type byte and the length byte are read, and the payload or the low CRC byte is next (41_codec.md R145). -/
theorem run_readsHeader {s : State} {t n : Byte} {rest : List RxAnswer} (hs : s.env.sched = []) (ho : s.opk ≠ .send)
    (hp : s.phase = .rxType) (hn : n.toNat ≤ maxPayload) (hr : s.env.rx = .byte t :: .byte n :: rest) :
    Host.Core.run Sys2Proof.core 2 s = .next { s with
      rType := t
      rLen := n
      rBuf := []
      phase := if n = 0 then .rxCrcLo else .rxPay 0
      env := { s.env with rx := rest, consumed := s.env.consumed ++ [t, n] } } := by
  have htype := step_reads hs ho (by simp [hp]) (by simp [hp]) hr
  rw [coreTakes_inside (by simp [hp]), State.rxByte_rxType (s := s.takeByte t) hp] at htype
  have hlen := step_reads (s := { s.takeByte t with rType := t, phase := .rxLen }) (b := n) (rest := rest) hs ho
    (by simp) (by simp) (by simp [hr])
  rw [coreTakes_inside (by simp), State.rxByte_rxLen rfl (Nat.not_lt.mpr hn)] at hlen
  rw [run_succ htype, run_succ hlen]
  simp [Host.Core.run, hr, State.takeByte]

/-- The bytes of a payload are read one by one, and the low CRC byte is next (41_codec.md R145). -/
theorem run_readsPayload {p : List Byte} {s : State} {j : Nat} {rest : List RxAnswer} (hs : s.env.sched = [])
    (ho : s.opk ≠ .send) (hp : s.phase = if p = [] then .rxCrcLo else .rxPay j) (hl : s.rLen.toNat = j + p.length)
    (hr : s.env.rx = p.map .byte ++ rest) :
    Host.Core.run Sys2Proof.core p.length s = .next { s with
      rBuf := s.rBuf ++ p
      phase := .rxCrcLo
      env := { s.env with rx := rest, consumed := s.env.consumed ++ p } } := by
  induction p generalizing s j with
  | nil =>
    rw [if_pos rfl] at hp
    obtain rfl : s.env.rx = rest := hr
    simp [Host.Core.run, ← hp]
  | cons b p ih =>
    rw [if_neg nofun] at hp
    have hstep := step_reads hs ho (by simp [hp]) (by simp [hp]) hr
    rw [coreTakes_inside (by simp [hp]), State.rxByte_rxPay (s := s.takeByte b) hp] at hstep
    have hnext : (if j + 1 < s.rLen.toNat then Phase.rxPay (j + 1) else .rxCrcLo) =
        if p = [] then .rxCrcLo else .rxPay (j + 1) := by
      cases p <;> simp [hl]
    have hlen : s.rLen.toNat = j + 1 + p.length := by rw [hl, List.length_cons]; omega
    calc Host.Core.run Sys2Proof.core (p.length + 1) s
        = Host.Core.run Sys2Proof.core p.length _ := run_succ hstep _
      _ = _ := ih (by exact hs) (by exact ho) (by exact hnext) (by exact hlen) (by simp [hr])
      _ = _ := by simp

/-- The two CRC bytes are read, and in the step of the second the operation in flight takes the frame (41_codec.md R145). -/
theorem run_readsCrc {s : State} {lo hi : Byte} {rest : List RxAnswer} (hs : s.env.sched = []) (ho : s.opk ≠ .send)
    (hp : s.phase = .rxCrcLo) (hr : s.env.rx = .byte lo :: .byte hi :: rest) :
    Host.Core.run Sys2Proof.core 2 s = .next (gotFrame Config.params s.rType s.rBuf (crcJoin lo hi) { s with
      rLo := lo
      rHi := hi
      phase := .rxCrcHi
      env := { s.env with rx := rest, consumed := s.env.consumed ++ [lo, hi] } }) := by
  have hlow := step_reads hs ho (by simp [hp]) (by simp [hp]) hr
  rw [coreTakes_inside (by simp [hp]), State.rxByte_rxCrcLo (s := s.takeByte lo) hp] at hlow
  have hhigh := step_reads (s := { s.takeByte lo with rLo := lo, phase := .rxCrcHi }) (b := hi) (rest := rest) hs ho
    (by simp) (by simp) (by simp [hr])
  rw [coreTakes_frame rfl] at hhigh
  rw [run_succ hlow, run_succ hhigh]
  simp [Host.Core.run, hr, State.takeByte]

/-- A reader at a frame's start reads the whole frame, one byte a step, and gives it to the operation in flight. -/
theorem run_readsFrame {s : State} {t : Byte} {p : List Byte} {c : Word} {rest : List RxAnswer} (hs : s.env.sched = [])
    (ho : s.opk ≠ .send) (hp : s.phase = .rxType) (hl : p.length ≤ maxPayload)
    (hr : s.env.rx = (frameBytes t p c).map .byte ++ rest) :
    Host.Core.run Sys2Proof.core (4 + p.length) s = .next (gotFrame Config.params t p c { s with
      rType := t
      rLen := lengthByte p
      rBuf := p
      rLo := crcLow c
      rHi := crcHigh c
      phase := .rxCrcHi
      env := { s.env with rx := rest, consumed := s.env.consumed ++ frameBytes t p c } }) := by
  have hlen := lengthByte_toNat hl
  have hzero : lengthByte p = 0 ↔ p = [] := by
    rw [← BitVec.toNat_inj, hlen]
    simp
  have hhead := run_readsHeader (t := t) (n := lengthByte p)
    (rest := p.map .byte ++ .byte (crcLow c) :: .byte (crcHigh c) :: rest) hs ho hp (hlen ▸ hl)
    (by simp [hr, frameBytes, coveredBytes])
  simp only [hzero] at hhead
  calc Host.Core.run Sys2Proof.core (4 + p.length) s
      = Host.Core.run Sys2Proof.core (2 + (p.length + 2)) s := by rw [show 4 + p.length = 2 + (p.length + 2) by omega]
    _ = Host.Core.run Sys2Proof.core (p.length + 2) _ := run_append hhead _
    _ = Host.Core.run Sys2Proof.core 2 _ :=
      run_append (run_readsPayload (j := 0) (by exact hs) (by exact ho) (by exact rfl) (by simp [hlen]) (by exact rfl)) 2
    _ = _ := run_readsCrc (by exact hs) (by exact ho) (by exact rfl) (by exact rfl)
    _ = _ := by simp [frameBytes, coveredBytes]

/-- Settles O49: the issue starts the reader, which reads the frame's bytes, and RSP then holds the frame. -/
theorem receiveRunDecodesFrame : Obligations.ReceiveRunDecodesFrame := by
  intro s t p c hrest rest hb hp hl hs hh hr
  have hissue : step s = .next ((s.fetchOp 0x07).begin .receive .rxType) :=
    (step_issue hs hp hh).trans (receiveIssueStartsReading (s.fetchOp 0x07) hb)
  have hrun := run_readsFrame (s := (s.fetchOp 0x07).begin .receive .rxType) hs nofun rfl hl hr
  have hrsp : payloadBytes (payloadRegs p) (lengthByte p) = p := payloadBytes_payloadRegs hl
  refine ⟨_, _, ?_, rfl, hrsp, exec_checkCrc rfl, ?_⟩
  · rw [Nat.add_comm 1, run_succ hissue, hrun, gotFrame_receive _ rfl]
    simp [State.writeRsp, State.begin, State.finish, State.fetchOp, State.popHost, hh, hp]
  · refine decide_eq_decide.mpr ?_
    simp only [State.rspBytes, hrsp, frameCrc, coveredBytes]

end Sys2Proof.Machine
end

section
/-! The transaction engine: the classifier, the issue of TRANSACT and POLL_REPORT, what each makes of a whole frame, and a
TRANSACT followed through its steps (O28 to O30, O32, O38 to O43, O45, O46, O50, O51). -/

namespace Sys2Proof.Machine

open Sys2Proof.Claims

/-! ### The classifier (42_engine.md R170, R171) -/

theorem classifyType_own_normal (sent : Code) : classifyType (mkType 0b01 sent) sent = .normal := by
  simp [classifyType]

theorem classifyType_own_error (sent : Code) : classifyType (mkType 0b11 sent) sent = .error := by
  simp [classifyType]

theorem classifyType_report (k sent : Code) : classifyType (mkType 0b10 k) sent = .report := by
  simp [classifyType]

theorem classifyType_command (k sent : Code) : classifyType (mkType 0b00 k) sent = .foreign := by
  simp [classifyType]

theorem classifyType_other {k sent : Code} (h : k ≠ sent) :
    classifyType (mkType 0b01 k) sent = .foreign ∧ classifyType (mkType 0b11 k) sent = .foreign := by
  simp [classifyType, beq_false_of_ne h]

/-- Settles O28, with the example's class evaluated. -/
theorem classifyWritesClassOut : Obligations.ClassifyWritesClassOut :=
  ⟨rfl, rfl, rfl, rfl, rfl, rfl, fun _ hb => congrArg Host.Outcome.next (State.issue_idle hb _)⟩

/-- Settles O29, a row of R170's table at a time. -/
theorem classifierMatchesClassAndCode : Obligations.ClassifierMatchesClassAndCode :=
  ⟨fun t => (mkType_typeClass_typeCode t).symm, fun k sent => ⟨classifyType_own_normal sent,
    classifyType_own_error sent, classifyType_report k sent, classifyType_command k sent, classifyType_other⟩⟩

/-! ### Issue (42_engine.md R175, R180; 60_exceptions.md R215) -/

theorem exec_transact_illegalLength {s : State} (hb : s.status.busy = false) (hl : 22 < s.cmdLen.toNat) :
    exec .transact s = .next (s.finish .invalidLength) := by
  have hi : s.cmdLenIllegal = true := decide_eq_true hl
  simp [exec, execTransact, State.issue_idle hb, hi]

theorem exec_transact_dead {s : State} (hb : s.status.busy = false) (hl : s.cmdLen.toNat ≤ 22)
    (hd : s.status.dead = true) : exec .transact s = .next (s.finish .sessionDead) := by
  simp [exec, execTransact, State.issue_idle hb, cmdLenIllegal_eq_false hl, hd]

/-- Settles O30: the length is checked first, then the session. -/
theorem transactIssueChecksThenSends : Obligations.TransactIssueChecksThenSends := by
  refine fun s hb => ⟨fun hl => exec_transact_illegalLength hb hl, fun hl hd => exec_transact_dead hb hl hd,
    fun hl hd => ?_⟩
  rw [exec_transact_latches hb hl hd, State.cmdCode, mkType_zero_typeCode]
  rfl

theorem exec_pollReport_queued {s : State} {e : QEntry} {rest : List QEntry} (hb : s.status.busy = false)
    (hq : s.queue = e :: rest) : exec .pollReport s =
      .next (({ s with queue := rest }.writeRep e.ftype e.payload).finishPoll true .ok) := by
  simp only [exec, execPollReport, State.issue_idle hb, hq]

theorem exec_pollReport_dead {s : State} (hb : s.status.busy = false) (hq : s.queue = [])
    (hd : s.status.dead = true) : exec .pollReport s = .next (s.finishPoll false .sessionDead) := by
  simp only [exec, execPollReport, State.issue_idle hb, hq, hd, if_true]

/-- With nothing queued and the session alive the transport is asked (42_engine.md R182). -/
theorem exec_pollReport_asks {s : State} (hb : s.status.busy = false) (hq : s.queue = [])
    (hd : s.status.dead = false) : exec .pollReport s = .next (if s.rxNonEmpty
      then s.askedRxNonEmpty.begin .pollReport .rxType else s.askedRxNonEmpty.finishPoll false .noReport) := by
  simp only [exec, execPollReport, State.issue_idle hb, hq, hd, Bool.false_eq_true, if_false]

theorem State.rxNonEmpty_listed {s : State} {b : Bool} {rest : List Bool} (h : s.env.rxNonEmpty = b :: rest) :
    s.rxNonEmpty = b ∧ s.askedRxNonEmpty = { s with env := { s.env with rxNonEmpty := rest } } := by
  simp only [State.rxNonEmpty, State.askedRxNonEmpty, h, and_self]

theorem State.rxNonEmpty_drawn {s : State} (h : s.env.rxNonEmpty = []) :
    s.rxNonEmpty = Config.rxNonEmptyDraw s.env.draws ∧
      s.askedRxNonEmpty = { s with env := { s.env with draws := s.env.draws + 1 } } := by
  simp only [State.rxNonEmpty, State.askedRxNonEmpty, h, and_self]

/-- Settles O32: the queue is looked at first, then the session, and then the transport answers. -/
theorem pollReportIssueOrder : Obligations.PollReportIssueOrder := by
  refine fun s hb => ⟨fun e rest hq => exec_pollReport_queued hb hq, fun hq hd => exec_pollReport_dead hb hq hd,
    fun b rest hq hd he => ?_, fun hq hd he => ?_⟩
  · obtain ⟨hans, hasked⟩ := State.rxNonEmpty_listed he
    rw [exec_pollReport_asks hb hq hd, hans, hasked]
    rfl
  · obtain ⟨hans, hasked⟩ := State.rxNonEmpty_drawn he
    rw [exec_pollReport_asks hb hq hd, hans, hasked]
    rfl

/-- Settles O38: a receive phase needs an answer of the receive transport. -/
theorem coreHoldsWithoutAnswer : Obligations.CoreHoldsWithoutAnswer := by
  intro s hn ho hr hphase
  have hi : s.phase ≠ .idle := by rintro h; simp [h] at hphase
  have ht : ∀ i, s.phase ≠ .tx i := by rintro i h; simp [h] at hphase
  exact step_core_hold hn (strayPhase_reading ho ht) hi ht hr

/-! ### The rows of a received type byte in a TRANSACT (42_engine.md R176, R177) -/

theorem receivedRow_accepted {t : Byte} {arm : List Byte → Word → State → State} {s : State} (hp : s.phase = .rxCrcHi)
    (ho : s.opk = .transact) (hc : frameCrc t s.rBuf = s.latchedCrc) :
    receivedRow t arm s = arm s.rBuf s.latchedCrc s := by
  rw [receivedRow, if_pos hp, if_pos ho, checkedFrame, if_pos hc]

theorem receivedRow_corrupt {t : Byte} {arm : List Byte → Word → State → State} {s : State} (hp : s.phase = .rxCrcHi)
    (ho : s.opk = .transact) (hc : frameCrc t s.rBuf ≠ s.latchedCrc) : receivedRow t arm s = s.desync := by
  rw [receivedRow, if_pos hp, if_pos ho, checkedFrame, if_neg hc]

/-- Settles O39: past its CRC check each row writes RSP and completes. -/
theorem responseRowsEndTransaction : Obligations.ResponseRowsEndTransaction :=
  fun _ _ hp ho => ⟨fun hc => congrArg Host.Outcome.next (receivedRow_accepted hp ho hc),
    fun hc => congrArg Host.Outcome.next (receivedRow_accepted hp ho hc)⟩

/-- Settles O42: past its CRC check each row logs the frame. -/
theorem foreignRowsLogAndContinue : Obligations.ForeignRowsLogAndContinue :=
  fun _ _ hp ho => ⟨fun hc => congrArg Host.Outcome.next (receivedRow_accepted hp ho hc),
    fun hc => congrArg Host.Outcome.next (receivedRow_accepted hp ho hc),
    fun hc => congrArg Host.Outcome.next (receivedRow_accepted hp ho hc)⟩

/-- The row of a type byte is a received-type row for that very byte. -/
theorem exec_decodeReceivedType_eq_receivedRow (sent : Code) (t : Byte) (s : State) :
    ∃ arm, exec (decodeReceivedType sent t) s = .next (receivedRow t arm s) := by
  rcases decodeReceivedType_cases sent t with ⟨hc, -, hd⟩ | ⟨hc, -, hd⟩ | ⟨hc, -, hd⟩ | ⟨hc, -, hd⟩ | ⟨hc, -, hd⟩ |
    ⟨hc, -, hd⟩
  all_goals
    rw [hd]
    exact ⟨_, congrArg (fun b => Host.Outcome.next (receivedRow b _ s)) (mkType_of_class hc)⟩

/-- Settles O43: every row checks the CRC before anything that depends on the class. -/
theorem crcMismatchDesynchronises : Obligations.CrcMismatchDesynchronises := by
  intro s t sent hp ho hc
  obtain ⟨arm, he⟩ := exec_decodeReceivedType_eq_receivedRow sent t s
  rw [he, receivedRow_corrupt hp ho hc, State.desync_transact ho]
  rfl

/-! ### A report in a TRANSACT (42_engine.md R172, R173, R178) -/

section
variable {R : Type} {P : Params R} {t : Byte} {p : List Byte} {s : State}

theorem takeReport_unrecognised (hr : P.reportDecode (typeCode t) p = none) :
    takeReport P t p s = { s.log (.droppedReport t (lengthByte p)) with phase := .rxType } := by
  simp only [takeReport, hr]

theorem takeReport_room {r : R} (hr : P.reportDecode (typeCode t) p = some r)
    (hq : ∀ k, P.qdepth = some k → s.queue.length < k) :
    takeReport P t p s = { s with queue := s.queue ++ [⟨t, p⟩], phase := .rxType } := by
  have hroom : queueFull P s = false := by
    rw [Bool.eq_false_iff, ne_eq, queueFull_iff]
    rintro ⟨k, hk, hle⟩
    exact absurd (hq k hk) (Nat.not_lt.mpr hle)
  simp only [takeReport, hr, enqueue, hroom, Bool.false_eq_true, if_false]

theorem takeReport_full {r : R} {k : Nat} (hr : P.reportDecode (typeCode t) p = some r) (hk : P.qdepth = some k)
    (hle : k ≤ s.queue.length) : takeReport P t p s =
      { (s.log (.queueOverflow t (lengthByte p))).setQovf with phase := .rxType } := by
  have hfull : queueFull P s = true := (queueFull_iff P s).mpr ⟨k, hk, hle⟩
  simp only [takeReport, hr, enqueue, hfull, if_true]

end

/-- Settles O41, by the decoder's answer and the depth. -/
theorem reportHandlingForAllParameters : Obligations.ReportHandlingForAllParameters := by
  refine fun R P t p s => ⟨fun hr => takeReport_unrecognised hr, fun r hr hq => takeReport_room hr ?_,
    fun r k hr hk hlt => takeReport_room hr ?_, fun r k hr hk hlen => takeReport_full hr hk hlen.ge⟩
  · simp [hq]
  · simpa [hk] using hlt

/-- Settles O40, by the decoder's answer, the depth and the queue's length. -/
theorem reportRowQueuesOrDrops : Obligations.ReportRowQueuesOrDrops := by
  intro s k hp ho hc
  have hrow : exec (.rxReport k) s = .next (takeReport Config.params (mkType 0b10 k) s.rBuf s) :=
    congrArg Host.Outcome.next (receivedRow_accepted hp ho hc)
  have hdec : Config.params.reportDecode (typeCode (mkType 0b10 k)) s.rBuf = Config.reportDecode k s.rBuf := by
    rw [typeCode_mkType]
    rfl
  rw [hrow]
  cases hr : Config.reportDecode k s.rBuf with
  | none => exact congrArg Host.Outcome.next (takeReport_unrecognised (hdec.trans hr))
  | some r =>
    have hqd : Config.params.qdepth = Config.qdepth := rfl
    cases hq : Config.qdepth with
    | none => exact congrArg Host.Outcome.next (takeReport_room (hdec.trans hr) (by simp [hqd, hq]))
    | some depth =>
      by_cases hlt : s.queue.length < depth
      · simp only [hlt, if_true]
        exact congrArg Host.Outcome.next (takeReport_room (hdec.trans hr) (by simp [hqd, hq, hlt]))
      · simp only [hlt, if_false]
        exact congrArg Host.Outcome.next (takeReport_full (hdec.trans hr) hq (Nat.not_lt.mp hlt))

/-! ### FRAME in an engine operation (42_engine.md R176, R181) -/

theorem gotFrame_transact {R : Type} (P : Params R) {s : State} (ho : s.opk = .transact) (t : Byte) (p : List Byte)
    (c : Word) : gotFrame P t p c s = processFrame P t p c s := by
  simp only [gotFrame, ho]

theorem gotFrame_pollReport {R : Type} (P : Params R) {s : State} (ho : s.opk = .pollReport) (t : Byte)
    (p : List Byte) (c : Word) : gotFrame P t p c s = pollProcess P t p c s := by
  simp only [gotFrame, ho]

/-- Settles O46: both are `process` of the frame read. -/
theorem frameAgreesWithReceivedTypeRow : Obligations.FrameAgreesWithReceivedTypeRow := by
  intro s hp ho
  rw [exec_frame hp, gotFrame_transact _ ho, exec_decodeReceivedType hp ho]
  rfl

/-- Settles O45, by what `pollProcess` can do. -/
theorem frameEndsPollReport : Obligations.FrameEndsPollReport := by
  intro s t p c _ hp ho
  rw [exec_frame hp, gotFrame_pollReport _ ho]
  rcases pollProcess_cases Config.params t p c s with ⟨hc, e⟩ | ⟨hc, hcl, ⟨r, hr⟩, e⟩ | ⟨hc, hcl, hr, e⟩ | ⟨hc, hcl, e⟩ <;>
    rw [e]
  · rw [if_pos hc, State.desync_pollReport ho]
    rfl
  · rw [if_neg (not_not.mpr hc), if_neg (not_not.mpr hcl), show Config.reportDecode (typeCode t) p = some r from hr]
    rfl
  · rw [if_neg (not_not.mpr hc), if_neg (not_not.mpr hcl), show Config.reportDecode (typeCode t) p = none from hr]
    rfl
  · rw [if_neg (not_not.mpr hc), if_pos hcl]
    rfl

/-! ### A TRANSACT from its issue to its completion (42_engine.md R175 to R177; 70_reset_and_hazards.md R251) -/

/-- The command's frame is sent from an Idle core with no turn listed, and the first frame is awaited. -/
theorem run_sendsCommand {s : State} {hrest : List HostAccess} {txrest : List TxAnswer} (hb : s.status.busy = false)
    (hp : s.phase = .idle) (hd : s.status.dead = false) (hl : s.cmdLen.toNat ≤ 22) (hs : s.env.sched = [])
    (hh : s.env.host = .wr 0x00 0x09 :: hrest)
    (ht : s.env.tx = List.replicate (4 + s.cmdLen.toNat) .ok ++ txrest) :
    Host.Core.run Sys2Proof.core (1 + (4 + s.cmdLen.toNat)) s = .next { s with
      op := 0x09
      status := { s.status with busy := true }
      opk := .transact
      phase := .rxType
      scode := s.cmdCode
      txbuf := encodeFrame (s.cmdType &&& 0x3F) s.cmdBytes
      env := { s.env with
        host := hrest
        tx := txrest
        sent := s.env.sent ++ encodeFrame (s.cmdType &&& 0x3F) s.cmdBytes } } := by
  have hissue : step s = .next { (s.fetchOp 0x09).startWrite .transact
      (encodeFrame (mkType 0b00 s.cmdCode) s.cmdBytes) with scode := s.cmdCode } :=
    (step_issue hs hp hh).trans (exec_transact_latches (s := s.fetchOp 0x09) hb hl hd)
  rw [State.cmdCode, mkType_zero_typeCode] at hissue
  have hlen : (encodeFrame (s.cmdType &&& 0x3F) s.cmdBytes).length = 0 + (3 + s.cmdLen.toNat + 1) := by
    rw [encodeFrame_length, State.cmdBytes, payloadBytes_length]
    omega
  rw [show 4 + s.cmdLen.toNat = 3 + s.cmdLen.toNat + 1 by omega] at ht ⊢
  rw [Nat.add_comm 1, run_succ hissue, run_transmits (by exact hs) rfl (.inr rfl) (by exact hlen) (by exact ht),
    State.sentAll_transact rfl]
  simp [State.startWrite, State.begin, State.fetchOp, State.popHost, State.cmdCode, hh]

theorem classifyType_response (rejected : Bool) (sent : Code) :
    classifyType (mkType (if rejected then 0b11 else 0b01) sent) sent = if rejected then .error else .normal := by
  cases rejected
  · exact classifyType_own_normal sent
  · exact classifyType_own_error sent

/-- A Normal or an Error frame with its correct CRC is the result of the TRANSACT. -/
theorem processFrame_response {R : Type} (P : Params R) {rejected : Bool} {t : Byte} (p : List Byte) {s : State}
    (hk : classifyType t s.scode = if rejected then .error else .normal) : processFrame P t p (frameCrc t p) s =
      (s.writeRsp t p (frameCrc t p)).finish (if rejected then .deviceError else .ok) := by
  simp only [processFrame, checkedFrame, if_true, hk]
  cases rejected <;> rfl

/-- Settles O50: the command is sent, the answer's frame is read, and its last byte completes the transaction. -/
theorem transactRunReturnsResponse : Obligations.TransactRunReturnsResponse := by
  intro s rejected p hrest txrest rest hb hp hd hl hlen hs hh ht hr
  have hk := classifyType_response rejected s.cmdCode
  generalize mkType (if rejected then 0b11 else 0b01) s.cmdCode = t at hk hr ⊢
  calc Host.Core.run Sys2Proof.core (1 + (4 + s.cmdLen.toNat) + (4 + p.length)) s
      = Host.Core.run Sys2Proof.core (4 + p.length) _ := run_append (run_sendsCommand hb hp hd hl hs hh ht) _
    _ = .next (gotFrame Config.params t p (frameCrc t p) _) :=
      run_readsFrame (by exact hs) (by simp) (by exact rfl) hlen (by exact hr)
    _ = .next (processFrame Config.params t p (frameCrc t p) _) :=
      congrArg Host.Outcome.next (gotFrame_transact _ (by exact rfl) ..)
    _ = _ := congrArg Host.Outcome.next (processFrame_response _ p (by exact hk))
    _ = _ := by simp [State.writeRsp, State.finish, encodeFrame, hp]

/-! ### Reports and foreign frames in a TRANSACT (42_engine.md R172, R173, R176, R178) -/

/-- What a TRANSACT keeps of the frames that do not end it. -/
def State.account (s : State) : List QEntry × List DiagEvent × Bool := (s.queue, s.diag, s.status.qovf)

/-- The same, set to `a`. -/
def State.withAccount (s : State) (a : List QEntry × List DiagEvent × Bool) : State :=
  { s with queue := a.1, diag := a.2.1, status := { s.status with qovf := a.2.2 } }

theorem takeForeign_eq_absorb {sent : Code} {t : Byte} {p : List Byte} {s : State}
    (hk : classifyType t sent = .foreign) :
    takeForeign t p s = { s.withAccount (absorb sent s.account (t, p)) with phase := .rxType } := by
  rw [absorb, if_pos hk]
  rfl

theorem takeReport_eq_absorb {sent : Code} {t : Byte} {p : List Byte} {s : State}
    (hk : classifyType t sent = .report) :
    takeReport Config.params t p s = { s.withAccount (absorb sent s.account (t, p)) with phase := .rxType } := by
  have hne : classifyType t sent ≠ .foreign := by simp [hk]
  have hqd : Config.params.qdepth = Config.qdepth := rfl
  rw [absorb, if_neg hne]
  cases hr : Config.reportDecode (typeCode t) p with
  | none => exact takeReport_unrecognised hr
  | some r =>
    cases hq : Config.qdepth with
    | none => exact takeReport_room (P := Config.params) hr (by simp [hqd, hq])
    | some k =>
      by_cases hlt : s.account.1.length < k
      · simp only [hlt, if_true]
        refine takeReport_room (P := Config.params) hr ?_
        simpa [hqd, hq, State.account] using hlt
      · simp only [hlt, if_false]
        exact takeReport_full (P := Config.params) hr hq (Nat.not_lt.mp hlt)

/-- The frame that a TRANSACT absorbs is accounted for, and the next one is awaited. -/
theorem processFrame_absorbs {t : Byte} {p : List Byte} {s : State}
    (hk : classifyType t s.scode = .report ∨ classifyType t s.scode = .foreign) :
    processFrame Config.params t p (frameCrc t p) s =
      { s.withAccount (absorb s.scode s.account (t, p)) with phase := .rxType } := by
  rcases hk with hk | hk
  · rw [← takeReport_eq_absorb hk]
    simp [processFrame, checkedFrame, hk]
  · rw [← takeForeign_eq_absorb hk]
    simp [processFrame, checkedFrame, hk]

/-- The state at the next frame's first byte, once the frame `(t, p)` with its correct CRC is absorbed and `rest` is
what is left of the stream. -/
def State.absorbed (s : State) (t : Byte) (p : List Byte) (rest : List RxAnswer) : State :=
  { s.withAccount (absorb s.scode s.account (t, p)) with
    rType := t
    rLen := lengthByte p
    rBuf := p
    rLo := crcLow (frameCrc t p)
    rHi := crcHigh (frameCrc t p)
    env := { s.env with rx := rest, consumed := s.env.consumed ++ encodeFrame t p } }

/-- A TRANSACT reads one frame that does not end it, and is again at a frame's first byte. -/
theorem run_absorbsFrame {s : State} {t : Byte} {p : List Byte} {rest : List RxAnswer} (hp : s.phase = .rxType)
    (ho : s.opk = .transact) (hs : s.env.sched = []) (hl : p.length ≤ maxPayload)
    (hk : classifyType t s.scode = .report ∨ classifyType t s.scode = .foreign)
    (hr : s.env.rx = (encodeFrame t p).map .byte ++ rest) :
    Host.Core.run Sys2Proof.core (encodeFrame t p).length s = .next (s.absorbed t p rest) := by
  calc Host.Core.run Sys2Proof.core (encodeFrame t p).length s
      = Host.Core.run Sys2Proof.core (4 + p.length) s := by rw [encodeFrame_length]
    _ = .next (gotFrame Config.params t p (frameCrc t p) _) := run_readsFrame hs (by simp [ho]) hp hl hr
    _ = .next (processFrame Config.params t p (frameCrc t p) _) :=
      congrArg Host.Outcome.next (gotFrame_transact _ (by exact ho) ..)
    _ = _ := congrArg Host.Outcome.next (processFrame_absorbs (by exact hk))
    _ = _ := by simp [State.absorbed, State.withAccount, State.account, encodeFrame, hp]

/-- Settles O51, by induction on the frames. -/
theorem transactAbsorbsReportsAndForeign : Obligations.TransactAbsorbsReportsAndForeign := by
  intro s fs rest hp ho hs hfs hr
  induction fs generalizing s with
  | nil =>
    obtain rfl : s.env.rx = rest := hr
    exact ⟨s, rfl, rfl, by simp, rfl⟩
  | cons f fs ih =>
    obtain ⟨⟨hl, hk⟩, hfs⟩ := List.forall_mem_cons.mp hfs
    rw [List.map_cons, List.flatten_cons] at hr ⊢
    rw [List.map_append, List.append_assoc] at hr
    have hrun := run_absorbsFrame hp ho hs hl hk hr
    obtain ⟨u, hu, haccount, henv, hframe⟩ := ih (s.absorbed f.1 f.2 _) hp ho hs hfs rfl
    refine ⟨u, ?_, haccount, ?_, hframe⟩
    · rw [List.length_append, run_append hrun, hu]
    · simp [henv, State.absorbed]

end Sys2Proof.Machine
end

section
/-! The exceptions: an opcode that names no operation, an opcode written while BUSY, and that no step stops (O24, O25,
O54). -/

namespace Sys2Proof.Machine

/-! ### Opcodes that issue nothing (60_exceptions.md R216, R217) -/

/-- Settles O24: the issue of ILLEGAL is its completion. -/
theorem illegalOpcodeOnlyReports : Obligations.IllegalOpcodeOnlyReports :=
  ⟨fun _ => decodeOperation_illegal, fun _ _ hb => congrArg Host.Outcome.next (State.issue_idle hb _)⟩

/-- Whatever operation is issued while BUSY, the overlap fault is all that happens (10_state.md R25). -/
theorem exec_operation_busy {i : Instr} (hi : i.space 0 = .operation) {s : State} (hb : s.status.busy = true) :
    exec i s = .next s.setOverlap := by
  obtain ⟨t, ht⟩ := exec_answers_next i s
  rcases exec_operation_cases hi ht with ⟨-, rfl⟩ | ⟨hidle, -⟩
  · exact ht
  · exact absurd (hb.symm.trans hidle) nofun

/-- Settles O25: every byte names an operation, and that operation is issued while BUSY. -/
theorem overlapLeavesOperationInFlight : Obligations.OverlapLeavesOperationInFlight := by
  intro s v rest hb hn hh
  rw [step_host_op hn hh, exec_operation_busy (decodeOperation_space _) (s := s.popTurn.fetchOp v) hb]
  simp [State.setOverlap, State.fetchOp, State.popHost, State.popTurn, hh]

/-! ### The block takes no trap (60_exceptions.md R214) -/

/-- The invariant shuts out the hidden states that 10_state.md R40 excludes. -/
theorem Inv.not_stray {s : State} (h : Inv s) : strayPhase s = false := by
  have hh := h.hidden
  cases hp : s.phase <;> simp only [HiddenInv, hp] at hh
  case idle => simp only [strayPhase, hp]
  case tx i =>
    obtain ⟨hi, _, -, ⟨ho, -⟩ | ⟨ho, -⟩⟩ := hh
    · exact strayPhase_tx hp hi (.inl ho)
    · exact strayPhase_tx hp hi (.inr ho)
  case rxType | rxLen => exact strayPhase_reading hh (by simp [hp])
  case rxPay | rxCrcLo | rxCrcHi =>
    obtain ⟨ho, -⟩ := hh
    exact strayPhase_reading ho (by simp [hp])

/-- The host's turn always answers: each access is one register update, or the meaning of an operation. -/
theorem hostTurn_answers_next (s : State) : ∃ t, hostTurn s = .next t := by
  rcases hostTurn_cases s with ⟨-, e⟩ | ⟨v, -, -, e⟩ | ⟨x, v, -, -, -, e⟩ | ⟨x, -, -, e⟩ | ⟨-, -, e⟩ | ⟨-, -, e⟩ <;>
    rw [e]
  · exact ⟨s, rfl⟩
  · exact exec_answers_next _ _
  · exact ⟨_, rfl⟩
  · exact ⟨_, rfl⟩
  · split <;> exact ⟨_, rfl⟩
  · exact ⟨_, rfl⟩

/-- The core's turn answers wherever the phase is one that the spec allows. -/
theorem coreTurn_answers_next {s : State} (h : strayPhase s = false) : coreTurn s = .next (coreMove s) := by
  simp [coreTurn_eq, h]

/-- Settles O54: only the core's turn can stop, and only at a stray phase, which the invariant shuts out. -/
theorem stepNeverStops : Obligations.StepNeverStops := by
  intro s h
  rcases step_cases s with ⟨-, e⟩ | ⟨-, e⟩ | ⟨-, e⟩ <;> rw [e]
  · exact ⟨s, rfl⟩
  · exact hostTurn_answers_next s.popTurn
  · exact ⟨_, coreTurn_answers_next h.not_stray⟩

end Sys2Proof.Machine
end

section
/-! The reset input: what it does in a step, what the registers read after it, and the invariant there (O20, O52). -/

namespace Sys2Proof.Machine

/-- The host's turn at the reset input: every field but the agents' lists and records is that of `State.reset`
(70_reset_and_hazards.md R240, R241). -/
theorem step_host_reset {s : State} {rest : List HostAccess} (hn : nextTurn s = some .host)
    (hh : s.env.host = .reset :: rest) : step s = .next s.popTurn.popHost.assertReset := by
  simp only [step, hn, hostTurn, State.popTurn_env, hh]

/-- A register's value after reset (10_state.md R22). -/
theorem readReg_reset (r : Reg) : readReg State.reset r = if r = .crcAcc then 0xFFFF else 0x0000 := by
  cases r
  case cmdPayload i | rspPayload i | repPayload i => simp [readReg, State.reset]
  all_goals rfl

/-- An index's value after reset: the register's there, and 0 where the index is reserved (10_state.md R22, R23). -/
theorem readIndex_reset (x : Byte) : readIndex State.reset x = if x = 0x05 then 0xFFFF else 0x0000 := by
  have hacc : x = 5#8 ↔ Reg.ofIndex x = some .crcAcc := Reg.eq_index_iff (r := .crcAcc)
  cases hr : Reg.ofIndex x with
  | none => simp [readIndex_reserved _ hr, hacc, hr]
  | some r => simp [readIndex, hr, readReg_reset, hacc]

/-- Settles O20: the step asserts reset, and the reset state reads by register. -/
theorem resetRestoresResetState : Obligations.ResetRestoresResetState := by
  refine ⟨fun s rest hn hh => ?_, readIndex_reset, rfl, rfl, rfl, rfl, rfl, rfl, rfl, rfl, rfl, rfl, rfl, rfl⟩
  rw [step_host_reset hn hh]
  simp [State.assertReset, State.popHost, State.popTurn, hh]

/-- Settles O52: this is the base case that the reset input's turn already needed for O53. -/
theorem invariantAtReset : Obligations.InvariantAtReset := inv_reset

end Sys2Proof.Machine
end

section
/-! The wire rows where the block is not reading or sending their word: the model's choice of log 9 (O47). -/

namespace Sys2Proof.Machine

/-- Where no frame is complete, FRAME does nothing. -/
theorem exec_frame_incomplete {s : State} (hp : s.phase ≠ .rxCrcHi) (t : Byte) (p : List Byte) (c : Word) :
    exec (.frame t p c) s = .next s :=
  congrArg Host.Outcome.next (if_neg hp)

/-- SEND reads no frame, so its FRAME does nothing. -/
theorem gotFrame_send {R : Type} (P : Params R) {s : State} (ho : s.opk = .send) (t : Byte) (p : List Byte)
    (c : Word) : gotFrame P t p c s = s := by
  simp only [gotFrame, ho]

/-- Where the byte to send is not a frame's first, TX_COMMAND_TYPE does nothing. -/
theorem exec_txCommandType_elsewhere {s : State} (hp : s.phase ≠ .tx 0) (k : Code) :
    exec (.txCommandType k) s = .next s :=
  congrArg Host.Outcome.next (if_neg hp)

/-- Where no frame is complete, a received-type row does nothing, whatever its arm. -/
theorem receivedRow_incomplete {s : State} (hp : s.phase ≠ .rxCrcHi) (t : Byte)
    (arm : List Byte → Word → State → State) : receivedRow t arm s = s :=
  if_neg hp

/-- Outside a TRANSACT a received-type row does not use its arm: it is FRAME with its type byte. -/
theorem receivedRow_eq_frame {s : State} (hp : s.phase = .rxCrcHi) (ho : s.opk ≠ .transact) (t : Byte)
    (arm : List Byte → Word → State → State) :
    .next (receivedRow t arm s) = exec (.frame t s.rBuf (crcJoin s.rLo s.rHi)) s := by
  rw [exec_frame hp, receivedRow, if_pos hp, if_neg ho]
  rfl

/-- Settles O47: the six received-type rows are `receivedRow` with their type bytes, and each place is one of its
branches, or of FRAME's or TX_COMMAND_TYPE's. -/
theorem wireRowsOutsideTheirSpace : Obligations.WireRowsOutsideTheirSpace := by
  intro s
  refine ⟨fun hp k => ?incomplete, exec_txCommandType_elsewhere, fun hp ho k => ?notTransact, fun hp ho t p c => ?send⟩
  case incomplete =>
    have hrow t arm := congrArg (Host.Outcome.next (φ := Fault) (ρ := Refusal)) (receivedRow_incomplete hp t arm)
    exact ⟨hrow _ _, hrow _ _, hrow _ _, hrow _ _, hrow _ _, hrow _ _, exec_frame_incomplete hp⟩
  case notTransact =>
    have hrow := receivedRow_eq_frame hp ho
    exact ⟨hrow _ _, hrow _ _, hrow _ _, hrow _ _, hrow _ _, hrow _ _⟩
  case send => rw [exec_frame hp, gotFrame_send _ ho]

end Sys2Proof.Machine
end
